-- ==== Sys2Proof/Word.lean ====
section
/-! DEFINITION. The widths of MRTU's values (00_scope.md R8): bytes, 16-bit registers, 32-bit words. -/

namespace Sys2Proof

/-- A command word, a read address or read data (00_scope.md R8). -/
abbrev Word := BitVec 32

/-- A register value, a start address, a count, a CRC or a length (00_scope.md R8). -/
abbrev Half := BitVec 16

/-- A slave id, a function code or one frame byte (00_scope.md R8). -/
abbrev Byte := BitVec 8

end Sys2Proof
end

