-- ==== Sys2Proof/Config.lean ====
section
/-! DEFINITION. What an implementation fixes (MAX_REGS, 00_scope.md R7) and the free values (10_state.md R39). -/

namespace Sys2Proof

/-- The smallest legal `MAX_REGS` (00_scope.md R7). -/
def Config.minMaxRegs : Nat := 1

/-- The largest legal `MAX_REGS` (00_scope.md R7); it keeps `FRAME_MAX` inside a 16-bit length. -/
def Config.maxMaxRegs : Nat := 32763

/-- The default of the open parameter `MAX_REGS` (00_scope.md R7). The machine reads its capacity from
PARAM_MAX_REGS, so a statement over all states holds for every legal value (log entry 5). -/
def Config.defaultMaxRegs : Half := 125#16

/-- FREE VALUE. What the `n`-th draw of an unwritten buffer entry of width `w` returns (10_state.md R39:
"a free draw (any value), never as 0"). No body: nothing can be proved of it (log entry 4). -/
opaque Config.freeDraw (w n : Nat) : BitVec w

end Sys2Proof
end

