-- ==== Sys2Proof/Syntax.lean ====
section
/-! DEFINITION. The twelve commands (30_encoding.md R67) and the causes a command can be rejected with (60_exceptions.md R202). -/

namespace Sys2Proof

/-- The commands, with the operands of 30_encoding.md R66. One constructor per row of the opcode map R67. -/
inductive Instr where
  /-- Start a new CRC (40_crc.md R103). -/
  | crcinit
  /-- Apply one byte to the running CRC (40_crc.md R104). -/
  | crcbyte (byte : Byte)
  /-- Set the slave id and function code of the next frame (41_encoder.md R123). -/
  | enchdr (sid fc : Byte)
  /-- Set the start address of the next frame (41_encoder.md R124). -/
  | encaddr (half : Half)
  /-- Empty the value list (41_encoder.md R125). -/
  | encclr
  /-- Append one register value (41_encoder.md R126). -/
  | encval (half : Half)
  /-- Build the frame into TXB (41_encoder.md R127). -/
  | encgo
  /-- Empty the receive buffer (42_decoder.md R141). -/
  | rxclr
  /-- Append one received byte (42_decoder.md R142). -/
  | rxbyte (byte : Byte)
  /-- Decode the receive buffer (42_decoder.md R155). -/
  | decgo
  /-- Set the decoder mode; only bit 0 of the operand may be set (43_control.md R170). -/
  | setctrl (half : Half)
  /-- Clear the error registers (43_control.md R171). -/
  | errclr
  deriving DecidableEq, Repr

/-- The defined opcodes (30_encoding.md R67): an instruction without its operands. -/
inductive Opcode where
  | crcinit | crcbyte | enchdr | encaddr | encclr | encval | encgo | rxclr | rxbyte | decgo | setctrl | errclr
  deriving DecidableEq, Repr

/-- Why a command word is rejected (60_exceptions.md R202). Code 0, NONE, is never raised and has no constructor. -/
inductive RejectCause where
  /-- The opcode is not defined (60_exceptions.md R203). -/
  | illegalOpcode
  /-- A defined opcode with a reserved bit set (60_exceptions.md R204). -/
  | reservedNonzero
  /-- ENCVAL when VAL is full (60_exceptions.md R205). -/
  | valFull
  /-- RXBYTE when RXB is full (60_exceptions.md R206). -/
  | rxFull
  deriving DecidableEq, Repr

end Sys2Proof
end

