-- ==== Sys2Proof/WellFormed.lean ====
section
/-! DEFINITION. Which instructions are the reading of a legal command word (30_encoding.md R67). -/

namespace Sys2Proof

/-- Every operand field admits all its values, but for SETCTRL's, whose bits 15:1 are reserved
(30_encoding.md R67: "bit 0 only; bits 15:1 reserved"). -/
def Instr.wellFormed : Instr → Bool
  | .crcinit => true
  | .crcbyte _ => true
  | .enchdr _ _ => true
  | .encaddr _ => true
  | .encclr => true
  | .encval _ => true
  | .encgo => true
  | .rxclr => true
  | .rxbyte _ => true
  | .decgo => true
  | .setctrl half => half >>> 1 == 0#16
  | .errclr => true

end Sys2Proof
end

