-- ==== Sys2Proof/Decode.lean ====
section
/-! DEFINITION. Decoding a command word (30_encoding.md R61 to R69) and, after it, encoding an instruction (R74). -/

namespace Sys2Proof

/-! ### The opcode map (30_encoding.md R67) -/

/-- The column OP. -/
def Opcode.byte : Opcode → Byte
  | .crcinit => 0x01#8
  | .crcbyte => 0x02#8
  | .enchdr => 0x10#8
  | .encaddr => 0x11#8
  | .encclr => 0x12#8
  | .encval => 0x13#8
  | .encgo => 0x14#8
  | .rxclr => 0x20#8
  | .rxbyte => 0x21#8
  | .decgo => 0x22#8
  | .setctrl => 0x30#8
  | .errclr => 0x31#8

/-- The column "match". -/
def Opcode.matchWord : Opcode → Word
  | .crcinit => 0x01000000#32
  | .crcbyte => 0x02000000#32
  | .enchdr => 0x10000000#32
  | .encaddr => 0x11000000#32
  | .encclr => 0x12000000#32
  | .encval => 0x13000000#32
  | .encgo => 0x14000000#32
  | .rxclr => 0x20000000#32
  | .rxbyte => 0x21000000#32
  | .decgo => 0x22000000#32
  | .setctrl => 0x30000000#32
  | .errclr => 0x31000000#32

/-- The column "legal-word mask". -/
def Opcode.mask : Opcode → Word
  | .crcinit => 0xFFFFFFFF#32
  | .crcbyte => 0xFFFFFF00#32
  | .enchdr => 0xFFFF0000#32
  | .encaddr => 0xFFFF0000#32
  | .encclr => 0xFFFFFFFF#32
  | .encval => 0xFFFF0000#32
  | .encgo => 0xFFFFFFFF#32
  | .rxclr => 0xFFFFFFFF#32
  | .rxbyte => 0xFFFFFF00#32
  | .decgo => 0xFFFFFFFF#32
  | .setctrl => 0xFFFFFFFE#32
  | .errclr => 0xFFFFFFFF#32

/-- The rows of the map, in its order. -/
def Opcode.all : List Opcode :=
  [.crcinit, .crcbyte, .enchdr, .encaddr, .encclr, .encval, .encgo, .rxclr, .rxbyte, .decgo, .setctrl, .errclr]

/-- The defined opcode with this OP value, if there is one (30_encoding.md R68). -/
def Opcode.ofByte (op : Byte) : Option Opcode :=
  Opcode.all.find? fun o => o.byte == op

/-! ### Fields of a command word (30_encoding.md R61 to R66) -/

/-- OP = w[31:24] (30_encoding.md R61). -/
def opField (w : Word) : Byte := w.extractLsb' 24 8

/-- BYTE = w[7:0] (30_encoding.md R63, R66). -/
def byteField (w : Word) : Byte := w.extractLsb' 0 8

/-- HALF = w[15:0] (30_encoding.md R64, R66). -/
def halfField (w : Word) : Half := w.extractLsb' 0 16

/-- SID = w[15:8] (30_encoding.md R65, R66). -/
def sidField (w : Word) : Byte := w.extractLsb' 8 8

/-- FC = w[7:0] (30_encoding.md R65, R66). -/
def fcField (w : Word) : Byte := w.extractLsb' 0 8

/-! ### Decoding -/

/-- The instruction an opcode and the operand fields of its format make (30_encoding.md R66, R67). -/
def Opcode.instr (w : Word) : Opcode → Instr
  | .crcinit => .crcinit
  | .crcbyte => .crcbyte (byteField w)
  | .enchdr => .enchdr (sidField w) (fcField w)
  | .encaddr => .encaddr (halfField w)
  | .encclr => .encclr
  | .encval => .encval (halfField w)
  | .encgo => .encgo
  | .rxclr => .rxclr
  | .rxbyte => .rxbyte (byteField w)
  | .decgo => .decgo
  | .setctrl => .setctrl (halfField w)
  | .errclr => .errclr

/-- The decode procedure of 30_encoding.md R69: the opcode first, then the reserved bits. -/
def decode (w : Word) : Except RejectCause Instr :=
  match Opcode.ofByte (opField w) with
  | none => .error .illegalOpcode
  | some op => if w &&& op.mask = op.matchWord then .ok (op.instr w) else .error .reservedNonzero

/-- The instruction the decoder reads from a row's word as the opcode table numbers its bits. A command is
one 32-bit word (30_encoding.md R60), so a longer row has no reading. -/
def decodeTableWord (nbits w : Nat) : Option Instr :=
  if nbits ≤ 32 then
    match decode (BitVec.ofNat 32 (w % 2 ^ nbits)) with
    | .ok i => some i
    | .error _ => none
  else none

/-! ### Encoding -/

/-- The opcode an instruction has. -/
def Instr.opcode : Instr → Opcode
  | .crcinit => .crcinit
  | .crcbyte _ => .crcbyte
  | .enchdr _ _ => .enchdr
  | .encaddr _ => .encaddr
  | .encclr => .encclr
  | .encval _ => .encval
  | .encgo => .encgo
  | .rxclr => .rxclr
  | .rxbyte _ => .rxbyte
  | .decgo => .decgo
  | .setctrl _ => .setctrl
  | .errclr => .errclr

/-- The word of an instruction, from the column "word" of 30_encoding.md R74. -/
def encode : Instr → Word
  | .crcinit => 0x01000000#32
  | .crcbyte b => 0x02000000#32 ||| b.setWidth 32
  | .enchdr sid fc => 0x10000000#32 ||| (sid.setWidth 32 <<< 8) ||| fc.setWidth 32
  | .encaddr a => 0x11000000#32 ||| a.setWidth 32
  | .encclr => 0x12000000#32
  | .encval v => 0x13000000#32 ||| v.setWidth 32
  | .encgo => 0x14000000#32
  | .rxclr => 0x20000000#32
  | .rxbyte b => 0x21000000#32 ||| b.setWidth 32
  | .decgo => 0x22000000#32
  | .setctrl m => 0x30000000#32 ||| m.setWidth 32
  | .errclr => 0x31000000#32

end Sys2Proof
end

