-- ==== Sys2Proof/Machine/State.lean ====
section
/-! DEFINITION. MRTU's state (10_state.md, the summary table), the host's pending items, and the reset state (70_reset_and_hazards.md R240, R241). -/

namespace Sys2Proof.Machine

/-- The contents of one buffer (VAL, TXB, RXB or DEC_VAL; 10_state.md R21, R23, R25, R34): the entries written
since reset as (index, value) pairs, indices strictly rising. An index not listed is unwritten: a read of it is a
free draw (10_state.md R39), so there is no value an unlisted index reads as. A byte buffer is a list of Host.Cell. -/
abbrev Memory (w : Nat) := List (Nat × BitVec w)

/-- One interaction of the host with MRTU (20_memory.md R54). -/
inductive HostItem where
  /-- One word on the command port (20_memory.md R48). -/
  | command (w : Word)
  /-- One address on the read port (20_memory.md R41). -/
  | read (a : Word)
  /-- Reset, asserted and released between commands (70_reset_and_hazards.md R240, R242; log entry 6). -/
  | reset
  deriving DecidableEq, Repr

/-- MRTU never stops: "MRTU raises no trap, exception or interrupt of any kind" (60_exceptions.md R200), and reads
never fault (20_memory.md R45). There is no fault to name: no constructor. Safe and unsafe do not arise. -/
inductive Fault where
  deriving DecidableEq, Repr

/-- The reasons an instruction is refused a meaning. -/
inductive Refusal where
  /-- An arm of exec whose instruction has no meaning yet. Safe: nothing is claimed of it. No arm raises it. -/
  | notModelled (mnemonic : String)
  deriving DecidableEq, Repr

/-- The architectural state of 10_state.md's summary table ("exactly the registers and buffers of the summary
table", R10), followed by the model's own three fields `port`, `answers` and `draws`. -/
structure State where
  /-- CRC_ACC (R13). -/
  crcAcc : Half
  /-- CTRL (R14). -/
  ctrl : Half
  /-- ERR_CAUSE (R15). -/
  errCause : Byte
  /-- ERR_CMD (R16). -/
  errCmd : Word
  /-- ERR_COUNT (R17). -/
  errCount : Half
  /-- ENC_SID (R18). -/
  encSid : Byte
  /-- ENC_FC (R19). -/
  encFc : Byte
  /-- ENC_ADDR (R20). -/
  encAddr : Half
  /-- VAL, MAX_REGS entries (R21). -/
  val : Memory 16
  /-- VAL_LEN (R22). -/
  valLen : Half
  /-- TXB, FRAME_MAX entries (R23). -/
  txb : Memory 8
  /-- TX_LEN (R24). -/
  txLen : Half
  /-- RXB, FRAME_MAX entries (R25). -/
  rxb : Memory 8
  /-- RX_LEN (R26). -/
  rxLen : Half
  /-- DEC_STATUS (R27). -/
  decStatus : Byte
  /-- DEC_LEN (R28). -/
  decLen : Half
  /-- DEC_SID (R29). -/
  decSid : Byte
  /-- DEC_FC (R30). -/
  decFc : Byte
  /-- DEC_ADDR (R31). -/
  decAddr : Half
  /-- DEC_COUNT (R32). -/
  decCount : Half
  /-- DEC_NVAL (R33). -/
  decNval : Half
  /-- DEC_VAL, MAX_REGS entries (R34). -/
  decVal : Memory 16
  /-- DEC_CRC_CALC (R35). -/
  decCrcCalc : Half
  /-- DEC_CRC_RCV (R36). -/
  decCrcRcv : Half
  /-- PARAM_MAX_REGS (R37): the parameter MAX_REGS, which nothing writes (log entry 5). -/
  paramMaxRegs : Half
  /-- THE MODEL'S OWN: what the host has presented and MRTU has not taken, oldest first (20_memory.md R48; log entry 1). -/
  port : List HostItem
  /-- THE MODEL'S OWN: the data the read port has returned, oldest first (20_memory.md R41; log entry 3). -/
  answers : List Word
  /-- THE MODEL'S OWN: the number of unspecified values drawn (10_state.md R39; log entry 4). -/
  draws : Nat
  deriving DecidableEq, Repr

/-- The state right after reset of an MRTU whose MAX_REGS is `maxRegs` (70_reset_and_hazards.md R240, R241),
with nothing presented by the host. -/
def State.resetWith (maxRegs : Half) : State :=
  { crcAcc := 0xFFFF#16
    ctrl := 0#16
    errCause := 0#8
    errCmd := 0#32
    errCount := 0#16
    encSid := 0#8
    encFc := 0#8
    encAddr := 0#16
    val := []
    valLen := 0#16
    txb := []
    txLen := 0#16
    rxb := []
    rxLen := 0#16
    decStatus := 0#8
    decLen := 0#16
    decSid := 0#8
    decFc := 0#8
    decAddr := 0#16
    decCount := 0#16
    decNval := 0#16
    decVal := []
    decCrcCalc := 0#16
    decCrcRcv := 0#16
    paramMaxRegs := maxRegs
    port := []
    answers := []
    draws := 0 }

/-- The machine right after reset, at the default MAX_REGS (00_scope.md R7). -/
def State.reset : State := State.resetWith Config.defaultMaxRegs

end Sys2Proof.Machine
end

