-- ==== Sys2Proof/Machine/Flags.lean ====
section
/-! DEFINITION. Control and status codes: CTRL.LENIENT (10_state.md R14), the causes of ERR_CAUSE (60_exceptions.md
R202) and the outcomes of DEC_STATUS (10_state.md R27). MRTU has no arithmetic flags (10_state.md R11). -/

namespace Sys2Proof.Machine

/-- CTRL.LENIENT is bit 0 of CTRL (10_state.md R14): true is lenient mode. -/
def lenientBit (ctrl : Half) : Bool := ctrl.getLsbD 0

/-- The value SETCTRL writes: `zext_16(HALF[0])` (43_control.md R170). -/
def ctrlOfHalf (half : Half) : Half := (half.extractLsb' 0 1).setWidth 16

/-- The code of ERR_CAUSE (60_exceptions.md R202); 0 is NONE and is never raised. -/
def causeCode : RejectCause → Byte
  | .illegalOpcode => 1#8
  | .reservedNonzero => 2#8
  | .valFull => 3#8
  | .rxFull => 4#8

/-- The outcome of one DECGO (10_state.md R27). NONE, code 0, is the reset value and no outcome. -/
inductive DecodeStatus where
  /-- A populated frame. -/
  | ok
  /-- The source's FrameTooShort (42_decoder.md R144). -/
  | frameTooShort
  /-- The source's CrcMismatch (42_decoder.md R148). -/
  | crcMismatch
  /-- The source's TruncatedValues (42_decoder.md R149, R151). -/
  | truncatedValues
  deriving DecidableEq, Repr

/-- The code of DEC_STATUS (10_state.md R27). -/
def statusCode : DecodeStatus → Byte
  | .ok => 1#8
  | .frameTooShort => 2#8
  | .crcMismatch => 3#8
  | .truncatedValues => 4#8

end Sys2Proof.Machine
end

