-- ==== Sys2Proof/Machine/Operands.lean ====
section
/-! DEFINITION. Byte order on the wire (20_memory.md R47): how 16-bit values are cut into bytes and put together.
The operands of a command word are immediates taken unchanged (30_encoding.md R66), cut out in Decode.lean. -/

namespace Sys2Proof.Machine

/-- `v[15:8]`, the more significant byte (00_scope.md R9). -/
def hiByte (v : Half) : Byte := v.extractLsb' 8 8

/-- `v[7:0]`, the less significant byte (00_scope.md R9). -/
def loByte (v : Half) : Byte := v.extractLsb' 0 8

/-- `{hi, lo}`, the first argument in the upper bits (00_scope.md R9). -/
def joinBytes (hi lo : Byte) : Half := hi ++ lo

/-- A 16-bit value on the wire, more significant byte first (20_memory.md R47). -/
def bigEndian (v : Half) : List Byte := [hiByte v, loByte v]

/-- The CRC on the wire, less significant byte first (20_memory.md R47). -/
def littleEndian (v : Half) : List Byte := [loByte v, hiByte v]

/-- Byte `i` of a received buffer `r`. The decoder asks only for `i < len(r)`, where it is `r[i]`
(42_decoder.md R143 checks the length first); past the end it is never used. -/
def byteAt (r : List Byte) (i : Nat) : Byte := r.getD i 0#8

/-- The big-endian value at offset `i` of a received buffer (42_decoder.md R145, R153). -/
def halfAt (r : List Byte) (i : Nat) : Half := joinBytes (byteAt r i) (byteAt r (i + 1))

end Sys2Proof.Machine
end

