-- ==== Sys2Proof/Machine/Ops.lean ====
section
/-! DEFINITION. The named operations over the buffers and the registers, rejecting a command (60_exceptions.md R201,
MRTU's only exception, which has no return: R213), reset (70_reset_and_hazards.md R240, R241) and answering a read. -/

namespace Sys2Proof.Machine

/-! ### Buffers -/

/-- The canonical form of a buffer of `cap` entries: indices strictly rising and below `cap`. Every listed entry
has been written, so no entry is redundant. -/
def Memory.wf {w : Nat} (cap : Nat) : Memory w → Bool
  | [] => true
  | (i, _) :: rest => decide (i < cap) && rest.all (fun c => decide (i < c.1)) && Memory.wf cap rest

/-- What entry `i` holds, if it has been written since reset (10_state.md R39). -/
def Memory.lookup {w : Nat} : Memory w → Nat → Option (BitVec w)
  | [], _ => none
  | (j, v) :: rest, i => if j = i then some v else Memory.lookup rest i

/-- `B[i] <- v` (00_scope.md R9). -/
def Memory.write {w : Nat} : Memory w → Nat → BitVec w → Memory w
  | [], i, v => [(i, v)]
  | (j, u) :: rest, i, v =>
    if i < j then (i, v) :: (j, u) :: rest
    else if i = j then (i, v) :: rest
    else (j, u) :: Memory.write rest i v

/-- `B[start] <- vs[0]; B[start+1] <- vs[1]; ...`. -/
def Memory.writeSeq {w : Nat} : Memory w → Nat → List (BitVec w) → Memory w
  | m, _, [] => m
  | m, start, v :: vs => Memory.writeSeq (m.write start v) (start + 1) vs

/-- Read entry `i` when `draws` values have been drawn: what was last written there, or the next free draw
(10_state.md R39). Answers the value and how many values have been drawn then. -/
def Memory.read {w : Nat} (m : Memory w) (i draws : Nat) : BitVec w × Nat :=
  match m.lookup i with
  | some v => (v, draws)
  | none => (Config.freeDraw w draws, draws + 1)

/-- `B[start..start+n)` (00_scope.md R9), each entry read once, lowest index first. -/
def Memory.readSeq {w : Nat} (m : Memory w) : Nat → Nat → Nat → List (BitVec w) × Nat
  | _, 0, draws => ([], draws)
  | start, n + 1, draws =>
    let head := m.read start draws
    let tail := Memory.readSeq m (start + 1) n head.2
    (head.1 :: tail.1, tail.2)

/-! ### Capacities (00_scope.md R7) -/

/-- MAX_REGS, the capacity of VAL and DEC_VAL, as PARAM_MAX_REGS gives it (10_state.md R37). -/
def State.maxRegs (s : State) : Nat := s.paramMaxRegs.toNat

/-- FRAME_MAX = 8 + 2*MAX_REGS, the capacity of TXB and RXB (00_scope.md R7). -/
def State.frameMax (s : State) : Nat := 8 + 2 * s.maxRegs

/-! ### Registers: one named update per group that some rule writes together -/

/-- CRC_ACC <- v. -/
def State.setCrcAcc (s : State) (v : Half) : State := { s with crcAcc := v }

/-- CTRL <- v. -/
def State.setCtrl (s : State) (v : Half) : State := { s with ctrl := v }

/-- ERR_CAUSE, ERR_CMD and ERR_COUNT. -/
def State.setErrors (s : State) (cause : Byte) (cmd : Word) (count : Half) : State :=
  { s with errCause := cause, errCmd := cmd, errCount := count }

/-- ENC_SID <- sid ; ENC_FC <- fc. -/
def State.setEncHeader (s : State) (sid fc : Byte) : State := { s with encSid := sid, encFc := fc }

/-- ENC_ADDR <- a. -/
def State.setEncAddr (s : State) (a : Half) : State := { s with encAddr := a }

/-- VAL and VAL_LEN. -/
def State.setVal (s : State) (m : Memory 16) (len : Half) : State := { s with val := m, valLen := len }

/-- TXB and TX_LEN. -/
def State.setTx (s : State) (m : Memory 8) (len : Half) : State := { s with txb := m, txLen := len }

/-- RXB and RX_LEN. -/
def State.setRx (s : State) (m : Memory 8) (len : Half) : State := { s with rxb := m, rxLen := len }

/-- The model's queue of host items. -/
def State.setPort (s : State) (items : List HostItem) : State := { s with port := items }

/-- The model's record of read data. -/
def State.setAnswers (s : State) (vs : List Word) : State := { s with answers := vs }

/-- The model's count of free draws. -/
def State.setDraws (s : State) (n : Nat) : State := { s with draws := n }

/-! ### Rejecting a command, reset, answering a read -/

/-- The rejection primitive (60_exceptions.md R201): the first cause and word are kept while ERR_CAUSE is not 0,
and the count saturates. -/
def reject (cause : RejectCause) (w : Word) (s : State) : State :=
  s.setErrors
    (if s.errCause = 0#8 then causeCode cause else s.errCause)
    (if s.errCause = 0#8 then w else s.errCmd)
    (if s.errCount = 0xFFFF#16 then s.errCount else s.errCount + 1#16)

/-- Reset: every register at its reset value, every buffer entry unwritten (70_reset_and_hazards.md R240, R241).
PARAM_MAX_REGS reads MAX_REGS at all times. What the host presents next, and what it has been answered, are its own. -/
def applyReset (s : State) : State :=
  (((State.resetWith s.paramMaxRegs).setPort s.port).setAnswers s.answers).setDraws s.draws

/-- The read port returns `v` to the host, `draws` values having been drawn; nothing else changes (20_memory.md R41). -/
def giveAnswer (s : State) (v : Word) (draws : Nat) : State :=
  (s.setAnswers (s.answers ++ [v])).setDraws draws

end Sys2Proof.Machine
end

