-- ==== Sys2Proof/Machine/Control.lean ====
section
/-! DEFINITION. The commands SETCTRL and ERRCLR (43_control.md R170, R171). -/

namespace Sys2Proof.Machine

/-- SETCTRL m (43_control.md R170). The decoder has refused an operand with a bit of 15:1 set; for such an operand
the meaning is the same rejection, so it says all of R170 by itself (log entry 8). -/
def execSetctrl (half : Half) (s : State) : Host.Outcome State Fault Refusal :=
  if half >>> 1 = 0#16 then .next (s.setCtrl (ctrlOfHalf half))
  else .next (reject .reservedNonzero (encode (.setctrl half)) s)

/-- ERRCLR (43_control.md R171). -/
def execErrclr (s : State) : Host.Outcome State Fault Refusal :=
  .next (s.setErrors 0#8 0#32 0#16)

end Sys2Proof.Machine
end

