-- ==== Sys2Proof/Machine/Crc.lean ====
section
/-! DEFINITION. The CRC function (40_crc.md R100, R101) and the commands CRCINIT and CRCBYTE (R103, R104). -/

namespace Sys2Proof.Machine

/-- The initial accumulator (40_crc.md R101). -/
def crcInit : Half := 0xFFFF#16

/-- One of the eight rounds of CRC_STEP (40_crc.md R100): a logical shift right, then XOR with 0xA001 if the bit
shifted out was 1. -/
def crcRound (a : Half) : Half := if a.getLsbD 0 then (a >>> 1) ^^^ 0xA001#16 else a >>> 1

/-- `n` rounds. -/
def crcRounds : Nat → Half → Half
  | 0, a => a
  | n + 1, a => crcRounds n (crcRound a)

/-- CRC_STEP (40_crc.md R100). -/
def crcStep (acc : Half) (b : Byte) : Half := crcRounds 8 (acc ^^^ b.setWidth 16)

/-- CRC16 (40_crc.md R101): the first byte first, no final XOR, no reversal. -/
def crc16 (s : List Byte) : Half := s.foldl crcStep crcInit

/-- CRCINIT (40_crc.md R103). -/
def execCrcinit (s : State) : Host.Outcome State Fault Refusal :=
  .next (s.setCrcAcc crcInit)

/-- CRCBYTE b (40_crc.md R104). -/
def execCrcbyte (b : Byte) (s : State) : Host.Outcome State Fault Refusal :=
  .next (s.setCrcAcc (crcStep s.crcAcc b))

end Sys2Proof.Machine
end

