-- ==== Sys2Proof/Machine/Decoder.lean ====
section
/-! DEFINITION. DECODE_FRAME (42_decoder.md R143) and the commands RXCLR, RXBYTE and DECGO (R141, R142, R155). -/

namespace Sys2Proof.Machine

/-- The ten fields of DECODE_FRAME's result (42_decoder.md R143). -/
structure DecodeResult where
  status : DecodeStatus
  len : Nat
  sid : Byte
  fc : Byte
  addr : Half
  count : Half
  nval : Nat
  vals : List Half
  crcCalc : Half
  crcRcv : Half
  deriving DecidableEq, Repr

/-- FAIL (42_decoder.md R143, R154): no partial frame. -/
def decodeFail (status : DecodeStatus) (n : Nat) (crcCalc crcRcv : Half) : DecodeResult :=
  { status := status, len := n, sid := 0#8, fc := 0#8, addr := 0#16, count := 0#16, nval := 0, vals := [],
    crcCalc := crcCalc, crcRcv := crcRcv }

/-- The received CRC: the last two bytes, less significant first (42_decoder.md R146). -/
def receivedCrc (r : List Byte) : Half := joinBytes (byteAt r (r.length - 1)) (byteAt r (r.length - 2))

/-- The computed CRC: CRC16 of every byte but the last two (42_decoder.md R146). -/
def computedCrc (r : List Byte) : Half := crc16 (r.take (r.length - 2))

/-- The `k` big-endian values from offset 6 (42_decoder.md R153). -/
def regionValues (r : List Byte) (k : Nat) : List Half := (List.range k).map fun j => halfAt r (6 + 2 * j)

/-- DECODE_FRAME (42_decoder.md R143), its steps in the spec's order. -/
def decodeFrame (r : List Byte) (lenient : Bool) : DecodeResult :=
  let n := r.length
  if n < 8 then decodeFail .frameTooShort n 0#16 0#16
  else
    let count := halfAt r 4
    let crcRcv := receivedCrc r
    let crcCalc := computedCrc r
    let m := n - 8
    let k := m / 2
    if crcCalc ≠ crcRcv then decodeFail .crcMismatch n crcCalc crcRcv
    else if m % 2 ≠ 0 then decodeFail .truncatedValues n crcCalc crcRcv
    else if lenient = false ∧ k ≠ count.toNat then decodeFail .truncatedValues n crcCalc crcRcv
    else
      { status := .ok, len := n, sid := byteAt r 0, fc := byteAt r 1, addr := halfAt r 2, count := count,
        nval := k, vals := regionValues r k, crcCalc := crcCalc, crcRcv := crcRcv }

/-- The registers and entries DECGO writes (42_decoder.md R155). -/
def State.setDecode (s : State) (r : DecodeResult) : State :=
  { s with
    decStatus := statusCode r.status
    decLen := BitVec.ofNat 16 r.len
    decSid := r.sid
    decFc := r.fc
    decAddr := r.addr
    decCount := r.count
    decNval := BitVec.ofNat 16 r.nval
    decVal := s.decVal.writeSeq 0 r.vals
    decCrcCalc := r.crcCalc
    decCrcRcv := r.crcRcv }

/-- RXB[0..RX_LEN) (42_decoder.md R140), with the count of free draws after reading it. -/
def decoderBytes (s : State) : List Byte × Nat := s.rxb.readSeq 0 s.rxLen.toNat s.draws

/-- RXCLR (42_decoder.md R141): RXB keeps its entries. -/
def execRxclr (s : State) : Host.Outcome State Fault Refusal :=
  .next (s.setRx s.rxb 0#16)

/-- RXBYTE b (42_decoder.md R142). The word ERR_CMD records is the one word that decodes to this command (log entry 7). -/
def execRxbyte (b : Byte) (s : State) : Host.Outcome State Fault Refusal :=
  if s.rxLen.toNat = s.frameMax then .next (reject .rxFull (encode (.rxbyte b)) s)
  else .next (s.setRx (s.rxb.write s.rxLen.toNat b) (s.rxLen + 1#16))

/-- DECGO (42_decoder.md R155). A failing decode is no rejection (60_exceptions.md R209). -/
def execDecgo (s : State) : Host.Outcome State Fault Refusal :=
  let bytes := decoderBytes s
  .next ((s.setDecode (decodeFrame bytes.1 (lenientBit s.ctrl))).setDraws bytes.2)

end Sys2Proof.Machine
end

