-- ==== Sys2Proof/Machine/Encoder.lean ====
section
/-! DEFINITION. ENCODE_FRAME (41_encoder.md R121) and the commands ENCHDR, ENCADDR, ENCCLR, ENCVAL and ENCGO (R123 to R127). -/

namespace Sys2Proof.Machine

/-- The frame's bytes before the CRC, slave id to last value byte (41_encoder.md R121, 30_encoding.md R71). -/
def framePayload (sid fc : Byte) (addr : Half) (vals : List Half) : List Byte :=
  [sid, fc] ++ bigEndian addr ++ bigEndian (BitVec.ofNat 16 vals.length) ++ vals.flatMap bigEndian

/-- A payload with its CRC appended, less significant byte first (41_encoder.md R121). -/
def withCrc (payload : List Byte) : List Byte := payload ++ littleEndian (crc16 payload)

/-- ENCODE_FRAME (41_encoder.md R121). -/
def encodeFrame (sid fc : Byte) (addr : Half) (vals : List Half) : List Byte :=
  withCrc (framePayload sid fc addr vals)

/-- VAL[0..VAL_LEN) (41_encoder.md R120), with the count of free draws after reading it. -/
def encoderValues (s : State) : List Half × Nat := s.val.readSeq 0 s.valLen.toNat s.draws

/-- ENCHDR sid, fc (41_encoder.md R123). -/
def execEnchdr (sid fc : Byte) (s : State) : Host.Outcome State Fault Refusal :=
  .next (s.setEncHeader sid fc)

/-- ENCADDR a (41_encoder.md R124). -/
def execEncaddr (a : Half) (s : State) : Host.Outcome State Fault Refusal :=
  .next (s.setEncAddr a)

/-- ENCCLR (41_encoder.md R125): VAL keeps its entries. -/
def execEncclr (s : State) : Host.Outcome State Fault Refusal :=
  .next (s.setVal s.val 0#16)

/-- ENCVAL v (41_encoder.md R126). The word ERR_CMD records is the one word that decodes to this command (log entry 7). -/
def execEncval (v : Half) (s : State) : Host.Outcome State Fault Refusal :=
  if s.valLen.toNat = s.maxRegs then .next (reject .valFull (encode (.encval v)) s)
  else .next (s.setVal (s.val.write s.valLen.toNat v) (s.valLen + 1#16))

/-- ENCGO (41_encoder.md R127). CRC_ACC takes no part (40_crc.md R105). -/
def execEncgo (s : State) : Host.Outcome State Fault Refusal :=
  let vals := encoderValues s
  let f := encodeFrame s.encSid s.encFc s.encAddr vals.1
  .next ((s.setTx (s.txb.writeSeq 0 f) (BitVec.ofNat 16 f.length)).setDraws vals.2)

end Sys2Proof.Machine
end

