-- ==== Sys2Proof/Machine/Dispatch.lean ====
section
/-! DEFINITION. One arm per command: the meaning of each (30_encoding.md R67, the column "rule"). -/

namespace Sys2Proof.Machine

def exec (i : Instr) (s : State) : Host.Outcome State Fault Refusal :=
  match i with
  | .crcinit => Sys2Proof.Machine.execCrcinit s
  | .crcbyte b => Sys2Proof.Machine.execCrcbyte b s
  | .enchdr sid fc => Sys2Proof.Machine.execEnchdr sid fc s
  | .encaddr a => Sys2Proof.Machine.execEncaddr a s
  | .encclr => Sys2Proof.Machine.execEncclr s
  | .encval v => Sys2Proof.Machine.execEncval v s
  | .encgo => Sys2Proof.Machine.execEncgo s
  | .rxclr => Sys2Proof.Machine.execRxclr s
  | .rxbyte b => Sys2Proof.Machine.execRxbyte b s
  | .decgo => Sys2Proof.Machine.execDecgo s
  | .setctrl half => Sys2Proof.Machine.execSetctrl half s
  | .errclr => Sys2Proof.Machine.execErrclr s

end Sys2Proof.Machine
end

