-- ==== Sys2Proof/Machine/ReadPort.lean ====
section
/-! DEFINITION. The read port (20_memory.md R41 to R46): its address map and what a read returns. -/

namespace Sys2Proof.Machine

/-- The scalar registers of the read port (20_memory.md R42). -/
inductive Reg where
  | crcAcc | ctrl | errCause | errCmd | errCount | paramMaxRegs
  | encSid | encFc | encAddr | valLen | txLen
  | rxLen | decStatus | decLen | decSid | decFc | decAddr | decCount | decNval | decCrcCalc | decCrcRcv
  deriving DecidableEq, Repr

/-- The buffers of the read port (20_memory.md R43). -/
inductive BufferName where
  | val | decVal | txb | rxb
  deriving DecidableEq, Repr

/-- What a read address names (20_memory.md R42 to R44). -/
inductive ReadTarget where
  | register (r : Reg)
  | entry (b : BufferName) (i : Nat)
  | unmapped
  deriving DecidableEq, Repr

/-- The column "address" of 20_memory.md R42. -/
def Reg.address : Reg → Word
  | .crcAcc => 0x00000000#32
  | .ctrl => 0x00000001#32
  | .errCause => 0x00000002#32
  | .errCmd => 0x00000003#32
  | .errCount => 0x00000004#32
  | .paramMaxRegs => 0x00000005#32
  | .encSid => 0x00000010#32
  | .encFc => 0x00000011#32
  | .encAddr => 0x00000012#32
  | .valLen => 0x00000013#32
  | .txLen => 0x00000014#32
  | .rxLen => 0x00000020#32
  | .decStatus => 0x00000021#32
  | .decLen => 0x00000022#32
  | .decSid => 0x00000023#32
  | .decFc => 0x00000024#32
  | .decAddr => 0x00000025#32
  | .decCount => 0x00000026#32
  | .decNval => 0x00000027#32
  | .decCrcCalc => 0x00000028#32
  | .decCrcRcv => 0x00000029#32

/-- The rows of 20_memory.md R42, in its order. -/
def Reg.all : List Reg :=
  [.crcAcc, .ctrl, .errCause, .errCmd, .errCount, .paramMaxRegs, .encSid, .encFc, .encAddr, .valLen, .txLen,
   .rxLen, .decStatus, .decLen, .decSid, .decFc, .decAddr, .decCount, .decNval, .decCrcCalc, .decCrcRcv]

/-- A register's value, zero-extended to 32 bits (20_memory.md R41). -/
def Reg.value (s : State) : Reg → Word
  | .crcAcc => s.crcAcc.setWidth 32
  | .ctrl => s.ctrl.setWidth 32
  | .errCause => s.errCause.setWidth 32
  | .errCmd => s.errCmd
  | .errCount => s.errCount.setWidth 32
  | .paramMaxRegs => s.paramMaxRegs.setWidth 32
  | .encSid => s.encSid.setWidth 32
  | .encFc => s.encFc.setWidth 32
  | .encAddr => s.encAddr.setWidth 32
  | .valLen => s.valLen.setWidth 32
  | .txLen => s.txLen.setWidth 32
  | .rxLen => s.rxLen.setWidth 32
  | .decStatus => s.decStatus.setWidth 32
  | .decLen => s.decLen.setWidth 32
  | .decSid => s.decSid.setWidth 32
  | .decFc => s.decFc.setWidth 32
  | .decAddr => s.decAddr.setWidth 32
  | .decCount => s.decCount.setWidth 32
  | .decNval => s.decNval.setWidth 32
  | .decCrcCalc => s.decCrcCalc.setWidth 32
  | .decCrcRcv => s.decCrcRcv.setWidth 32

/-- The first address of a buffer's window (20_memory.md R43). -/
def BufferName.base : BufferName → Nat
  | .val => 0x00010000
  | .decVal => 0x00020000
  | .txb => 0x00030000
  | .rxb => 0x00040000

/-- The number of entries of a buffer (10_state.md R21, R23, R25, R34). -/
def BufferName.capacity (s : State) : BufferName → Nat
  | .val => s.maxRegs
  | .decVal => s.maxRegs
  | .txb => s.frameMax
  | .rxb => s.frameMax

/-- The buffers, in the order of 20_memory.md R43. -/
def BufferName.all : List BufferName := [.val, .decVal, .txb, .rxb]

/-- Whether address `a` lies in the window of buffer `b` (20_memory.md R43). -/
def BufferName.covers (s : State) (a : Word) (b : BufferName) : Bool :=
  decide (b.base ≤ a.toNat) && decide (a.toNat < b.base + b.capacity s)

/-- The address map (20_memory.md R42, R43, R44). -/
def readTarget (s : State) (a : Word) : ReadTarget :=
  match Reg.all.find? fun r => r.address == a with
  | some r => .register r
  | none =>
    match BufferName.all.find? fun b => b.covers s a with
    | some b => .entry b (a.toNat - b.base)
    | none => .unmapped

/-- One buffer entry, zero-extended, and the count of free draws after it (20_memory.md R43, 10_state.md R39). -/
def readEntry (s : State) : BufferName → Nat → Word × Nat
  | .val, i => ((s.val.read i s.draws).1.setWidth 32, (s.val.read i s.draws).2)
  | .decVal, i => ((s.decVal.read i s.draws).1.setWidth 32, (s.decVal.read i s.draws).2)
  | .txb, i => ((s.txb.read i s.draws).1.setWidth 32, (s.txb.read i s.draws).2)
  | .rxb, i => ((s.rxb.read i s.draws).1.setWidth 32, (s.rxb.read i s.draws).2)

/-- What a read of address `a` returns, and the count of free draws after it (20_memory.md R41 to R44). -/
def readPort (s : State) (a : Word) : Word × Nat :=
  match readTarget s a with
  | .register r => (r.value s, s.draws)
  | .entry b i => readEntry s b i
  | .unmapped => (0#32, s.draws)

/-- A read: the host is given the value, and nothing else changes but the count of draws (20_memory.md R41, R45). -/
def serveRead (a : Word) (s : State) : State := giveAnswer s (readPort s a).1 (readPort s a).2

end Sys2Proof.Machine
end

