-- ==== Sys2Proof/Machine/HostPort.lean ====
section
/-! DEFINITION. One interaction of the host with MRTU (20_memory.md R48, R54): a command word, a read or a reset. -/

namespace Sys2Proof.Machine

/-- One command word (30_encoding.md R69): decoded and executed, or rejected. -/
def runCommand (w : Word) (s : State) : Host.Outcome State Fault Refusal :=
  match decode w with
  | .ok i => exec i s
  | .error cause => .next (reject cause w s)

/-- One host item, run to completion (20_memory.md R48). -/
def runItem (item : HostItem) (s : State) : Host.Outcome State Fault Refusal :=
  match item with
  | .command w => runCommand w s
  | .read a => .next (serveRead a s)
  | .reset => .next (applyReset s)

/-- Take the oldest item the host has presented and run it; with nothing presented MRTU does nothing
(00_scope.md R6). The position in the host's program (10_state.md R12) moves by one item. -/
def serve (s : State) : Host.Outcome State Fault Refusal :=
  match s.port with
  | [] => .next s
  | item :: rest => runItem item (s.setPort rest)

end Sys2Proof.Machine
end

