-- ==== Sys2Proof/Machine/Step.lean ====
section
/-! DEFINITION. One step of the machine, and the placing of a command word where the next step takes it. -/

namespace Sys2Proof.Machine

/-- One step: the oldest host item, run to completion (20_memory.md R48). -/
def step (s : State) : Host.Outcome State Fault Refusal := serve s

/-- `s` with the host presenting the command word `w` (of `nbits` table bits) next (log entry 2). -/
def State.withFetchWord (s : State) (nbits w : Nat) : State :=
  s.setPort (.command (BitVec.ofNat 32 (w % 2 ^ nbits)) :: s.port)

end Sys2Proof.Machine
end

