-- ==== Sys2Proof/Machine/Assembler.lean ====
section
/-! DEFINITION. The assembler's notation (30_encoding.md R74) and the pseudo-instructions (R75): how a program's text
becomes the words the host writes to the command port. Nothing of the machine depends on this file. -/

namespace Sys2Proof.Machine

/-! ### Pseudo-instructions -/

/-- The pseudo-instructions (30_encoding.md R75). They have no encodings of their own. -/
inductive Pseudo where
  | encode (sid fc : Byte) (addr : Half) (vals : List Half)
  | rxload (bytes : List Byte)
  | decode (bytes : List Byte)
  | crcseq (bytes : List Byte)
  | strict
  | lenient
  deriving DecidableEq, Repr

/-- The commands a pseudo-instruction expands to; none where R75 refuses it for the buffers of this `maxRegs`. -/
def Pseudo.expand (maxRegs : Nat) : Pseudo → Option (List Instr)
  | .encode sid fc addr vals =>
    if vals.length ≤ maxRegs then
      some ([.enchdr sid fc, .encaddr addr, .encclr] ++ vals.map Instr.encval ++ [.encgo])
    else none
  | .rxload bytes =>
    if bytes.length ≤ 8 + 2 * maxRegs then some (.rxclr :: bytes.map Instr.rxbyte) else none
  | .decode bytes =>
    if bytes.length ≤ 8 + 2 * maxRegs then some (.rxclr :: bytes.map Instr.rxbyte ++ [.decgo]) else none
  | .crcseq bytes => some (.crcinit :: bytes.map Instr.crcbyte)
  | .strict => some [.setctrl 0#16]
  | .lenient => some [.setctrl 1#16]

/-- Commands executed one after another, each to completion (20_memory.md R48). -/
def execSeq : List Instr → State → Host.Outcome State Fault Refusal
  | [], s => .next s
  | i :: is, s =>
    match exec i s with
    | .next t => execSeq is t
    | .fault r => .fault r
    | .refused r => .refused r

/-- The host presents these words next, in order (20_memory.md R48). -/
def State.present (s : State) (words : List Word) : State := s.setPort (s.port ++ words.map HostItem.command)

/-! ### One line of a program, cut into its parts -/

/-- The names a line may begin with (30_encoding.md R67, R75). -/
inductive Mnemonic where
  | crcinit | crcbyte | enchdr | encaddr | encclr | encval | encgo | rxclr | rxbyte | decgo | setctrl | errclr
  | encode | rxload | decode | crcseq | strict | lenient
  deriving DecidableEq, Repr

/-- A line: a name with its operands, or `.word n` (30_encoding.md R74). -/
inductive AsmLine where
  | op (m : Mnemonic) (operands : List Nat)
  | word (n : Nat)
  deriving DecidableEq, Repr

/-- BYTE, SID and FC "must be 0..255" (30_encoding.md R74). -/
def byteOperand (n : Nat) : Option Byte := if n < 256 then some (BitVec.ofNat 8 n) else none

/-- "HALF must be 0..65535" (30_encoding.md R74). -/
def halfOperand (n : Nat) : Option Half := if n < 65536 then some (BitVec.ofNat 16 n) else none

/-- "the SETCTRL operand must be 0 or 1" (30_encoding.md R74). -/
def modeOperand (n : Nat) : Option Half := if n < 2 then some (BitVec.ofNat 16 n) else none

/-- All the results, or none if one is refused. -/
def allSome {α β : Type} (f : α → Option β) : List α → Option (List β)
  | [] => some []
  | a :: as =>
    match f a, allSome f as with
    | some b, some bs => some (b :: bs)
    | _, _ => none

/-- The commands a name and its operands stand for; none for a missing or extra operand or one out of range
(30_encoding.md R74, R75). -/
def asmInstrs (maxRegs : Nat) (m : Mnemonic) (operands : List Nat) : Option (List Instr) :=
  match m, operands with
  | .crcinit, [] => some [.crcinit]
  | .crcbyte, [b] => (byteOperand b).map fun b => [.crcbyte b]
  | .enchdr, [sid, fc] =>
    match byteOperand sid, byteOperand fc with
    | some sid, some fc => some [.enchdr sid fc]
    | _, _ => none
  | .encaddr, [a] => (halfOperand a).map fun a => [.encaddr a]
  | .encclr, [] => some [.encclr]
  | .encval, [v] => (halfOperand v).map fun v => [.encval v]
  | .encgo, [] => some [.encgo]
  | .rxclr, [] => some [.rxclr]
  | .rxbyte, [b] => (byteOperand b).map fun b => [.rxbyte b]
  | .decgo, [] => some [.decgo]
  | .setctrl, [v] => (modeOperand v).map fun v => [.setctrl v]
  | .errclr, [] => some [.errclr]
  | .encode, sid :: fc :: addr :: vals =>
    match byteOperand sid, byteOperand fc, halfOperand addr, allSome halfOperand vals with
    | some sid, some fc, some addr, some vals => (Pseudo.encode sid fc addr vals).expand maxRegs
    | _, _, _, _ => none
  | .rxload, bytes => (allSome byteOperand bytes).bind fun bytes => (Pseudo.rxload bytes).expand maxRegs
  | .decode, bytes => (allSome byteOperand bytes).bind fun bytes => (Pseudo.decode bytes).expand maxRegs
  | .crcseq, bytes => (allSome byteOperand bytes).bind fun bytes => (Pseudo.crcseq bytes).expand maxRegs
  | .strict, [] => Pseudo.strict.expand maxRegs
  | .lenient, [] => Pseudo.lenient.expand maxRegs
  | _, _ => none

/-- The words of one line; `.word` is "emitted as given" (30_encoding.md R74). -/
def asmLine (maxRegs : Nat) : AsmLine → Option (List Word)
  | .op m operands => (asmInstrs maxRegs m operands).map fun is => is.map encode
  | .word n => if n < 2 ^ 32 then some [BitVec.ofNat 32 n] else none

/-! ### The text of a program (30_encoding.md R74; log entry 10 for what R74 leaves open) -/

/-- How a name is written. -/
def Mnemonic.spelling : Mnemonic → String
  | .crcinit => "CRCINIT"
  | .crcbyte => "CRCBYTE"
  | .enchdr => "ENCHDR"
  | .encaddr => "ENCADDR"
  | .encclr => "ENCCLR"
  | .encval => "ENCVAL"
  | .encgo => "ENCGO"
  | .rxclr => "RXCLR"
  | .rxbyte => "RXBYTE"
  | .decgo => "DECGO"
  | .setctrl => "SETCTRL"
  | .errclr => "ERRCLR"
  | .encode => "ENCODE"
  | .rxload => "RXLOAD"
  | .decode => "DECODE"
  | .crcseq => "CRCSEQ"
  | .strict => "STRICT"
  | .lenient => "LENIENT"

/-- Every name. -/
def Mnemonic.all : List Mnemonic :=
  [.crcinit, .crcbyte, .enchdr, .encaddr, .encclr, .encval, .encgo, .rxclr, .rxbyte, .decgo, .setctrl, .errclr,
   .encode, .rxload, .decode, .crcseq, .strict, .lenient]

/-- White space inside a line: a space, a tab or a carriage return (DESIGN CHOICE, log entry 10). -/
def isBlank (c : Char) : Bool := c == ' ' || c == '\t' || c == '\r'

/-- A text without the white space at its ends. -/
def trimBlanks (cs : List Char) : List Char :=
  ((cs.dropWhile isBlank).reverse.dropWhile isBlank).reverse

/-- A text cut at every `sep`. -/
def cutAt (sep : Char) : List Char → List (List Char)
  | [] => [[]]
  | c :: cs =>
    if c == sep then [] :: cutAt sep cs
    else
      match cutAt sep cs with
      | [] => [[c]]
      | part :: parts => (c :: part) :: parts

/-- The value of a digit in this base. -/
def digitValue (base : Nat) (c : Char) : Option Nat :=
  let n :=
    if '0' ≤ c ∧ c ≤ '9' then c.toNat - '0'.toNat
    else if 'a' ≤ c ∧ c ≤ 'f' then c.toNat - 'a'.toNat + 10
    else if 'A' ≤ c ∧ c ≤ 'F' then c.toNat - 'A'.toNat + 10
    else base
  if n < base then some n else none

/-- The value of a run of at least one digit, the most significant first. -/
def digitsValue (base : Nat) (cs : List Char) : Option Nat :=
  if cs = [] then none
  else (allSome (digitValue base) cs).map fun ds => ds.foldl (fun acc d => acc * base + d) 0

/-- "Numbers are decimal, 0x hexadecimal or 0b binary" (30_encoding.md R74). -/
def numberValue : List Char → Option Nat
  | '0' :: 'x' :: ds => digitsValue 16 ds
  | '0' :: 'b' :: ds => digitsValue 2 ds
  | ds => digitsValue 10 ds

/-- Operands "separated by commas" (30_encoding.md R74); blanks around each are ignored (DESIGN CHOICE, log entry 10). -/
def operandValues (cs : List Char) : Option (List Nat) :=
  if cs = [] then some [] else allSome (fun part => numberValue (trimBlanks part)) (cutAt ',' cs)

/-- A line's parts; `some none` for a line that is empty but for its comment, none for one the assembler refuses. Blanks
before the mnemonic, after the last operand and on either side of a comma are ignored, and the mnemonic ends at the first
blank (DESIGN CHOICE, log entry 10: R74 is silent). -/
def lexLine (cs : List Char) : Option (Option AsmLine) :=
  let body := trimBlanks (cs.takeWhile fun c => c != ';')
  let head := body.takeWhile fun c => !isBlank c
  let rest := trimBlanks (body.dropWhile fun c => !isBlank c)
  if body = [] then some none
  else
    match operandValues rest with
    | none => none
    | some ns =>
      if head = ".word".toList then
        match ns with
        | [n] => some (some (.word n))
        | _ => none
      else (Mnemonic.all.find? fun m => m.spelling.toList == head).map fun m => some (.op m ns)

/-- The words of one line of text. -/
def asmTextLine (maxRegs : Nat) (cs : List Char) : Option (List Word) :=
  match lexLine cs with
  | none => none
  | some none => some []
  | some (some l) => asmLine maxRegs l

/-- The words of a whole program; none if the assembler refuses one of its lines (30_encoding.md R74). -/
def assemble (maxRegs : Nat) (text : String) : Option (List Word) :=
  (allSome (asmTextLine maxRegs) (cutAt '\n' text.toList)).map List.flatten

end Sys2Proof.Machine
end

