-- ==== Sys2Proof/Safety.lean ====
section
/-! DEFINITION. The terms the claims are stated in: a buffer that holds a sequence, what a rejection leaves, which words
are illegal or reserved, and the invariant of 10_state.md R38. A safe run of MRTU is one in which every state meets it. -/

namespace Sys2Proof.Machine

/-- The buffer's entries 0, 1, ... are written and hold this sequence. -/
def Memory.Holds {w : Nat} (m : Memory w) (f : List (BitVec w)) : Prop :=
  ∀ i, i < f.length → m.lookup i = f[i]?

/-- What rejecting the word `w` with the cause code `cause` does to `s` (60_exceptions.md R201), written out. -/
def Rejected (cause : Byte) (w : Word) (s : State) : State :=
  { s with
    errCause := if s.errCause = 0#8 then cause else s.errCause
    errCmd := if s.errCause = 0#8 then w else s.errCmd
    errCount := if s.errCount = 0xFFFF#16 then 0xFFFF#16 else s.errCount + 1#16 }

/-- The next step takes the command word `w`, and `rest` is what the host has presented after it. -/
def State.Presents (s : State) (w : Word) (rest : List HostItem) : Prop := s.port = .command w :: rest

/-- The defined opcodes (30_encoding.md R67, R69), as numbers. -/
def definedOpcodes : List Byte :=
  [0x01#8, 0x02#8, 0x10#8, 0x11#8, 0x12#8, 0x13#8, 0x14#8, 0x20#8, 0x21#8, 0x22#8, 0x30#8, 0x31#8]

/-- Bits 31:24 (30_encoding.md R61). -/
def opcodeOf (w : Word) : Byte := w.extractLsb' 24 8

/-- The opcodes of format N (30_encoding.md R62, R67), whose bits 23:0 are reserved. -/
def formatN : List Byte := [0x01#8, 0x12#8, 0x14#8, 0x20#8, 0x22#8, 0x31#8]

/-- The opcodes of format B (30_encoding.md R63, R67), whose bits 23:8 are reserved. -/
def formatB : List Byte := [0x02#8, 0x21#8]

/-- The opcodes of formats H and P but SETCTRL (30_encoding.md R64, R65, R67), whose bits 23:16 are reserved. -/
def formatHP : List Byte := [0x10#8, 0x11#8, 0x13#8]

/-- A reserved bit of a defined opcode's format is set (30_encoding.md R62 to R65); for SETCTRL bits 23:1 (43_control.md R170). -/
def ReservedBitSet (w : Word) : Prop :=
  (opcodeOf w ∈ formatN ∧ w.extractLsb' 0 24 ≠ 0#24) ∨
  (opcodeOf w ∈ formatB ∧ w.extractLsb' 8 16 ≠ 0#16) ∨
  (opcodeOf w ∈ formatHP ∧ w.extractLsb' 16 8 ≠ 0#8) ∨
  (opcodeOf w = 0x30#8 ∧ w.extractLsb' 1 23 ≠ 0#23)

/-- MAX_REGS is legal (00_scope.md R7). -/
def State.LegalMaxRegs (s : State) : Prop :=
  Config.minMaxRegs ≤ s.maxRegs ∧ s.maxRegs ≤ Config.maxMaxRegs

/-- The invariants of 10_state.md R38, the code ranges of R27 and 60_exceptions.md R202, the written entries that
70_reset_and_hazards.md R241 rests on, the frame invariant of 41_encoder.md R129 and the failure fields of 42_decoder.md R154. -/
structure State.Inv (s : State) : Prop where
  legal : s.LegalMaxRegs
  valLen_le : s.valLen.toNat ≤ s.maxRegs
  rxLen_le : s.rxLen.toNat ≤ s.frameMax
  decNval_le : s.decNval.toNat ≤ s.maxRegs
  txLen_form : s.txLen = 0#16 ∨ ∃ k, k ≤ s.maxRegs ∧ s.txLen.toNat = 8 + 2 * k
  ctrl_reserved : s.ctrl >>> 1 = 0#16
  errCmd_clear : s.errCause = 0#8 → s.errCmd = 0#32
  errCount_clear : s.errCause = 0#8 ↔ s.errCount = 0#16
  errCause_code : s.errCause.toNat ≤ 4
  decStatus_code : s.decStatus.toNat ≤ 4
  decLen_le : s.decLen.toNat ≤ s.frameMax
  dec_failure : s.decStatus ≠ 1#8 →
    s.decSid = 0#8 ∧ s.decFc = 0#8 ∧ s.decAddr = 0#16 ∧ s.decCount = 0#16 ∧ s.decNval = 0#16
  dec_success : s.decStatus = 1#8 →
    s.decLen.toNat = 8 + 2 * s.decNval.toNat ∧ s.decCrcCalc = s.decCrcRcv
  val_wf : s.val.wf s.maxRegs = true
  decVal_wf : s.decVal.wf s.maxRegs = true
  txb_wf : s.txb.wf s.frameMax = true
  rxb_wf : s.rxb.wf s.frameMax = true
  val_written : ∃ vs : List Half, vs.length = s.valLen.toNat ∧ s.val.Holds vs
  rxb_written : ∃ r : List Byte, r.length = s.rxLen.toNat ∧ s.rxb.Holds r
  decVal_written : ∃ vs : List Half, vs.length = s.decNval.toNat ∧ s.decVal.Holds vs
  txb_frame : s.txLen = 0#16 ∨
    ∃ p : List Byte, p.length + 2 = s.txLen.toNat ∧
      s.txb.Holds (p ++ [(crc16 p).extractLsb' 0 8, (crc16 p).extractLsb' 8 8])

/-- Address `a` names a buffer entry that has not been written since reset (20_memory.md R41, R43, 10_state.md R39). -/
def State.UnwrittenAt (s : State) (a : Word) : Prop :=
  (∃ i, i < s.maxRegs ∧ a.toNat = 0x10000 + i ∧ s.val.lookup i = none) ∨
  (∃ i, i < s.maxRegs ∧ a.toNat = 0x20000 + i ∧ s.decVal.lookup i = none) ∨
  (∃ i, i < s.frameMax ∧ a.toNat = 0x30000 + i ∧ s.txb.lookup i = none) ∨
  (∃ i, i < s.frameMax ∧ a.toNat = 0x40000 + i ∧ s.rxb.lookup i = none)

/-- The scalar registers' read addresses and what is read there (20_memory.md R42). -/
def State.registerMap (s : State) : List (Word × Word) :=
  [(0x00#32, s.crcAcc.setWidth 32), (0x01#32, s.ctrl.setWidth 32), (0x02#32, s.errCause.setWidth 32),
   (0x03#32, s.errCmd), (0x04#32, s.errCount.setWidth 32), (0x05#32, s.paramMaxRegs.setWidth 32),
   (0x10#32, s.encSid.setWidth 32), (0x11#32, s.encFc.setWidth 32), (0x12#32, s.encAddr.setWidth 32),
   (0x13#32, s.valLen.setWidth 32), (0x14#32, s.txLen.setWidth 32), (0x20#32, s.rxLen.setWidth 32),
   (0x21#32, s.decStatus.setWidth 32), (0x22#32, s.decLen.setWidth 32), (0x23#32, s.decSid.setWidth 32),
   (0x24#32, s.decFc.setWidth 32), (0x25#32, s.decAddr.setWidth 32), (0x26#32, s.decCount.setWidth 32),
   (0x27#32, s.decNval.setWidth 32), (0x28#32, s.decCrcCalc.setWidth 32), (0x29#32, s.decCrcRcv.setWidth 32)]

/-- Address `a` lies in one of the four buffer windows (20_memory.md R43). -/
def State.InWindow (s : State) (a : Word) : Prop :=
  (0x10000 ≤ a.toNat ∧ a.toNat < 0x10000 + s.maxRegs) ∨
  (0x20000 ≤ a.toNat ∧ a.toNat < 0x20000 + s.maxRegs) ∨
  (0x30000 ≤ a.toNat ∧ a.toNat < 0x30000 + s.frameMax) ∨
  (0x40000 ≤ a.toNat ∧ a.toNat < 0x40000 + s.frameMax)

/-- The value of a two-byte field at offset `i`, most significant byte first (20_memory.md R47), as a number. -/
def fieldValue (r : List Byte) (i : Nat) : Nat := 256 * (r.getD i 0#8).toNat + (r.getD (i + 1) 0#8).toNat

/-- The received CRC, `r[n-2] + 256 * r[n-1]` (42_decoder.md R146), as a number. -/
def receivedValue (r : List Byte) : Nat :=
  (r.getD (r.length - 2) 0#8).toNat + 256 * (r.getD (r.length - 1) 0#8).toNat

/-- The CRC of a byte sequence as a number: 40_crc.md R100 and R101 read with division and remainder by two. -/
def crcNumber (s : List Byte) : Nat :=
  s.foldl (fun acc b => (fun a => if a % 2 = 1 then (a / 2) ^^^ 0xA001 else a / 2)^[8] (acc ^^^ b.toNat)) 0xFFFF

/-- Byte `i` of `r` with its bit `j` flipped (42_decoder.md R159). -/
def flipBit (r : List Byte) (i j : Nat) : List Byte :=
  r.modify i fun b => b ^^^ (1#8 <<< j)

/-! ### The CRC of the CRC catalogue (40_crc.md R102), most significant bit first: polynomial 0x8005, initial value
0xFFFF, input bytes and result bit-reversed, no final XOR. Not a second definition: a claim compares it with CRC16. -/

/-- One round of the unreflected CRC. -/
def catalogueRound (a : Half) : Half := if a.msb then (a <<< 1) ^^^ 0x8005#16 else a <<< 1

/-- `n` rounds of the unreflected CRC. -/
def catalogueRounds : Nat → Half → Half
  | 0, a => a
  | n + 1, a => catalogueRounds n (catalogueRound a)

/-- One byte of the unreflected CRC. -/
def catalogueStep (acc : Half) (b : Byte) : Half := catalogueRounds 8 (acc ^^^ (b.setWidth 16 <<< 8))

/-- The catalogue's CRC with refin and refout true. -/
def catalogueCrc (s : List Byte) : Half := ((s.map BitVec.reverse).foldl catalogueStep 0xFFFF#16).reverse

end Sys2Proof.Machine
end

