-- ==== Sys2Proof/Certificates/Slice0/Obligations.lean ====
section
/-! DEFINITION. The statements about MRTU for the provers, from the spec's numbered rules. `Rejected`, `Presents`, `Holds`,
`Inv` and the numeric readings of a frame stand in Sys2Proof/Safety.lean. -/

open Sys2Proof Sys2Proof.Machine

/-! ### Encoding (30_encoding.md) -/

/-- Decoding an encoded well-formed command gives it back, at every value of every operand (R66, R67, R74). -/
def Obligations.DecodeOfEncodeIsIdentity : Prop :=
  ∀ i : Instr, i.wellFormed = true → decode (encode i) = .ok i

/-- A word that decodes is the word of what it decodes to, and that is well formed: no two words are one command. -/
def Obligations.EncodeOfDecodeIsIdentity : Prop :=
  ∀ (w : Word) (i : Instr), decode w = .ok i → encode i = w ∧ i.wellFormed = true

/-- Words of R74's table and R75's example decode to their commands. -/
def Obligations.ListedWordsDecode : Prop :=
  decode 0x10000103#32 = .ok (.enchdr 1#8 3#8) ∧
  decode 0x1100006B#32 = .ok (.encaddr 0x006B#16) ∧
  decode 0x12000000#32 = .ok .encclr ∧
  decode 0x13000002#32 = .ok (.encval 2#16) ∧
  decode 0x14000000#32 = .ok .encgo ∧
  decode 0x2100009C#32 = .ok (.rxbyte 0x9C#8) ∧
  decode 0x30000001#32 = .ok (.setctrl 1#16) ∧
  decode 0x30000002#32 = .error .reservedNonzero ∧
  decode 0x00000000#32 = .error .illegalOpcode

/-! ### A step, its totality and its order (00_scope.md R6, 20_memory.md R48, R49, 70_reset_and_hazards.md R244) -/

/-- A step takes the oldest item; a command word that decodes is executed on the state it leaves behind, and
withFetchWord places exactly that word. -/
def Obligations.StepRunsTheDecodedCommand : Prop :=
  (∀ (s : State) (w : Word) (rest : List HostItem) (i : Instr),
    s.Presents w rest → decode w = .ok i → step s = exec i { s with port := rest }) ∧
  (∀ (s : State) (i : Instr),
    i.wellFormed = true → step (s.withFetchWord 32 (encode i).toNat) = exec i s)

/-- No step stops: each takes exactly one item and leaves MAX_REGS alone (R200, R246, R37). With nothing presented, nothing
happens: "MRTU does nothing except in response to a host command or reset" (R6). The queue is the model's own (log entry 1). -/
def Obligations.StepAlwaysCompletes : Prop :=
  ∀ s : State, (s.port = [] → step s = .next s) ∧
    ∃ t, step s = .next t ∧ t.port = s.port.tail ∧ t.paramMaxRegs = s.paramMaxRegs

/-- Every program's run ends, with one answer for each of its reads (R244). -/
def Obligations.EveryProgramEnds : Prop :=
  ∀ s : State, ∃ t, Host.Core.run core s.port.length s = .next t ∧ t.port = [] ∧
    t.answers.length = s.answers.length + (s.port.filter fun x => match x with
      | .read _ => true
      | .command _ => false
      | .reset => false).length

/-- An item sees nothing issued after it (R49): running `xs` gives the same whatever `ys` follows. -/
def Obligations.LaterItemsAreInvisible : Prop :=
  ∀ (s : State) (xs ys : List HostItem), ∃ t,
    Host.Core.run core xs.length { s with port := xs } = .next t ∧ t.port = [] ∧
    Host.Core.run core xs.length { s with port := xs ++ ys } = .next { t with port := ys }

/-! ### Rejection (60_exceptions.md) -/

/-- R203: an undefined opcode is rejected with cause 1 whatever its other bits hold; there are 244, 0x00 among them. -/
def Obligations.IllegalOpcodeIsRejected : Prop :=
  (∀ w : Word, decode w = .error .illegalOpcode ↔ opcodeOf w ∉ definedOpcodes) ∧
  (∀ (s : State) (w : Word) (rest : List HostItem), s.Presents w rest → opcodeOf w ∉ definedOpcodes →
    step s = .next (Rejected 1#8 w { s with port := rest })) ∧
  ((List.range 256).filter fun n => decide (BitVec.ofNat 8 n ∉ definedOpcodes)).length = 244 ∧
  (0x00#8 ∉ definedOpcodes)

/-- R204: a defined opcode with a reserved bit set is rejected with cause 2. -/
def Obligations.ReservedBitIsRejected : Prop :=
  (∀ w : Word, decode w = .error .reservedNonzero ↔ ReservedBitSet w) ∧
  (∀ (s : State) (w : Word) (rest : List HostItem), s.Presents w rest → ReservedBitSet w →
    step s = .next (Rejected 2#8 w { s with port := rest }))

/-- R207 with R205 and R206: one cause, in the order opcode, reserved bits, capacity; with none of them the command runs,
and its word is not recorded. -/
def Obligations.RejectionPriority : Prop :=
  ∀ (s : State) (w : Word) (rest : List HostItem), s.Presents w rest →
    (opcodeOf w ∉ definedOpcodes → step s = .next (Rejected 1#8 w { s with port := rest })) ∧
    (opcodeOf w ∈ definedOpcodes → ReservedBitSet w → step s = .next (Rejected 2#8 w { s with port := rest })) ∧
    (opcodeOf w ∈ definedOpcodes → ¬ ReservedBitSet w →
      (opcodeOf w = 0x13#8 → s.valLen.toNat = s.maxRegs →
        step s = .next (Rejected 3#8 w { s with port := rest })) ∧
      (opcodeOf w = 0x21#8 → s.rxLen.toNat = s.frameMax →
        step s = .next (Rejected 4#8 w { s with port := rest })) ∧
      (¬ (opcodeOf w = 0x13#8 ∧ s.valLen.toNat = s.maxRegs) → ¬ (opcodeOf w = 0x21#8 ∧ s.rxLen.toNat = s.frameMax) →
        ∃ t, step s = .next t ∧
          (opcodeOf w = 0x31#8 → t.errCause = 0#8 ∧ t.errCmd = 0#32 ∧ t.errCount = 0#16) ∧
          (opcodeOf w ≠ 0x31#8 → t.errCause = s.errCause ∧ t.errCmd = s.errCmd ∧ t.errCount = s.errCount)))

/-- R17 and R201 over any number of rejections: each adds 1, the count saturates, and the first record is kept. -/
def Obligations.RejectionsAccumulate : Prop :=
  ∀ (l : List (RejectCause × Word)) (s : State),
    let t := l.foldl (fun s p => reject p.1 p.2 s) s
    t = { s with errCause := t.errCause, errCmd := t.errCmd, errCount := t.errCount } ∧
    t.errCount.toNat = min (s.errCount.toNat + l.length) 0xFFFF ∧
    (s.errCause ≠ 0#8 → t.errCause = s.errCause ∧ t.errCmd = s.errCmd) ∧
    (s.errCause = 0#8 → ∀ c w l', l = (c, w) :: l' → t.errCause = causeCode c ∧ t.errCmd = w)

/-- R213: nothing but ERRCLR and reset touches an error record once made. -/
def Obligations.ErrorRecordIsSticky : Prop :=
  ∀ (s : State) (item : HostItem) (rest : List HostItem), s.port = item :: rest → s.errCause ≠ 0#8 →
    item ≠ .reset → item ≠ .command 0x31000000#32 →
    ∃ t, step s = .next t ∧ t.errCause = s.errCause ∧ t.errCmd = s.errCmd ∧
      s.errCount.toNat ≤ t.errCount.toNat

/-! ### The CRC unit (40_crc.md) -/

/-- R100 and R101: the CRC as arithmetic on numbers, from 0xFFFF, first byte first; 0xFFFF for the empty sequence. -/
def Obligations.CrcAgreesWithArithmetic : Prop :=
  (∀ (acc : Half) (b : Byte), (crcStep acc b).toNat =
    (fun a => if a % 2 = 1 then (a / 2) ^^^ 0xA001 else a / 2)^[8] (acc.toNat ^^^ b.toNat)) ∧
  (∀ s : List Byte, (crc16 s).toNat = crcNumber s) ∧
  crc16 [] = 0xFFFF#16

/-- The CRC is the catalogue's: polynomial 0x8005, reflected in and out, initial value 0xFFFF, no final XOR (R102). -/
def Obligations.CrcIsTheCatalogueCrc : Prop :=
  ∀ s : List Byte, crc16 s = catalogueCrc s

/-- The residue property (93_implementation_defined.md I13): the CRC of a payload followed by its CRC, less significant
byte first, is 0; and no other two bytes do that. -/
def Obligations.CrcResidueIsZero : Prop :=
  ∀ (p : List Byte) (lo hi : Byte),
    crc16 (p ++ [lo, hi]) = 0#16 ↔ lo = (crc16 p).extractLsb' 0 8 ∧ hi = (crc16 p).extractLsb' 8 8

/-- R103, CRCINIT: from the instruction and from its word. -/
def Obligations.CrcinitCommand : Prop :=
  (∀ s : State, exec .crcinit s = .next { s with crcAcc := 0xFFFF#16 }) ∧
  ∀ (s : State) (w : Word) (rest : List HostItem), s.Presents w rest → opcodeOf w = 0x01#8 →
    (w.extractLsb' 0 24 = 0#24 → step s = .next { s with port := rest, crcAcc := 0xFFFF#16 }) ∧
    (w.extractLsb' 0 24 ≠ 0#24 → step s = .next (Rejected 2#8 w { s with port := rest }))

/-- R104, CRCBYTE: from the instruction, from its word, its corner values, a whole sequence after CRCINIT, and after reset. -/
def Obligations.CrcbyteCommand : Prop :=
  (∀ (b : Byte) (s : State), exec (.crcbyte b) s = .next { s with crcAcc := crcStep s.crcAcc b }) ∧
  (∀ (s : State) (w : Word) (rest : List HostItem), s.Presents w rest → opcodeOf w = 0x02#8 →
    (w.extractLsb' 8 16 = 0#16 →
      step s = .next { s with port := rest, crcAcc := crcStep s.crcAcc (w.extractLsb' 0 8) }) ∧
    (w.extractLsb' 8 16 ≠ 0#16 → step s = .next (Rejected 2#8 w { s with port := rest }))) ∧
  crcStep 0xFFFF#16 0x00#8 = 0x40BF#16 ∧ crcStep 0xFFFF#16 0xFF#8 = 0x00FF#16 ∧
  crcStep 0xFFFF#16 0x01#8 = 0x807E#16 ∧
  (∀ (bytes : List Byte) (s : State),
    execSeq (.crcinit :: bytes.map Instr.crcbyte) s = .next { s with crcAcc := crc16 bytes }) ∧
  (∀ (bytes : List Byte) (m : Half),
    execSeq (bytes.map Instr.crcbyte) (State.resetWith m) = .next { State.resetWith m with crcAcc := crc16 bytes })

/-- R105 (and R13's "No other command reads or writes it"): no command but CRCINIT and CRCBYTE reads or writes CRC_ACC, and those two touch nothing else. -/
def Obligations.CrcAccumulatorIsIsolated : Prop :=
  ∀ (i : Instr) (s : State), ∃ t, exec i s = .next t ∧
    (i.opcode ≠ .crcinit → i.opcode ≠ .crcbyte → t.crcAcc = s.crcAcc ∧
      ∀ a : Half, exec i { s with crcAcc := a } = .next { t with crcAcc := a }) ∧
    (i.opcode = .crcinit ∨ i.opcode = .crcbyte → t = { s with crcAcc := t.crcAcc })

/-! ### The encoder (41_encoder.md) -/

/-- R123, ENCHDR. -/
def Obligations.EnchdrCommand : Prop :=
  (∀ (sid fc : Byte) (s : State), exec (.enchdr sid fc) s = .next { s with encSid := sid, encFc := fc }) ∧
  ∀ (s : State) (w : Word) (rest : List HostItem), s.Presents w rest → opcodeOf w = 0x10#8 →
    (w.extractLsb' 16 8 = 0#8 →
      step s = .next { s with port := rest, encSid := w.extractLsb' 8 8, encFc := w.extractLsb' 0 8 }) ∧
    (w.extractLsb' 16 8 ≠ 0#8 → step s = .next (Rejected 2#8 w { s with port := rest }))

/-- R124, ENCADDR. -/
def Obligations.EncaddrCommand : Prop :=
  (∀ (a : Half) (s : State), exec (.encaddr a) s = .next { s with encAddr := a }) ∧
  ∀ (s : State) (w : Word) (rest : List HostItem), s.Presents w rest → opcodeOf w = 0x11#8 →
    (w.extractLsb' 16 8 = 0#8 → step s = .next { s with port := rest, encAddr := w.extractLsb' 0 16 }) ∧
    (w.extractLsb' 16 8 ≠ 0#8 → step s = .next (Rejected 2#8 w { s with port := rest }))

/-- R125, ENCCLR; ENCGO after it builds an 8-byte frame with count 0. -/
def Obligations.EncclrCommand : Prop :=
  (∀ s : State, exec .encclr s = .next { s with valLen := 0#16 }) ∧
  (∀ (s : State) (w : Word) (rest : List HostItem), s.Presents w rest → opcodeOf w = 0x12#8 →
    (w.extractLsb' 0 24 = 0#24 → step s = .next { s with port := rest, valLen := 0#16 }) ∧
    (w.extractLsb' 0 24 ≠ 0#24 → step s = .next (Rejected 2#8 w { s with port := rest }))) ∧
  (∀ s : State, ∃ t, execSeq [.encclr, .encgo] s = .next t ∧ t.txLen = 8#16 ∧
    t.txb.lookup 4 = some 0#8 ∧ t.txb.lookup 5 = some 0#8)

/-- R126, ENCVAL: appended at VAL_LEN, every other entry kept; rejected with VAL_FULL when VAL_LEN = MAX_REGS; after ENCCLR
the first MAX_REGS are stored and the next is rejected. -/
def Obligations.EncvalCommand : Prop :=
  (∀ (v : Half) (s : State), s.valLen.toNat ≠ s.maxRegs → ∃ t, exec (.encval v) s = .next t ∧
    t = { s with val := t.val, valLen := s.valLen + 1#16 } ∧
    t.val.lookup s.valLen.toNat = some v ∧
    (∀ i, i ≠ s.valLen.toNat → t.val.lookup i = s.val.lookup i) ∧
    (s.Inv → t.valLen.toNat = s.valLen.toNat + 1 ∧ t.valLen.toNat ≤ t.maxRegs)) ∧
  (∀ (s : State) (w : Word) (rest : List HostItem), s.Presents w rest → opcodeOf w = 0x13#8 →
    (w.extractLsb' 16 8 ≠ 0#8 → step s = .next (Rejected 2#8 w { s with port := rest })) ∧
    (w.extractLsb' 16 8 = 0#8 → s.valLen.toNat = s.maxRegs →
      step s = .next (Rejected 3#8 w { s with port := rest })) ∧
    (w.extractLsb' 16 8 = 0#8 → s.valLen.toNat ≠ s.maxRegs →
      step s = exec (.encval (w.extractLsb' 0 16)) { s with port := rest })) ∧
  (∀ (s : State) (vals : List Half) (v : Half), vals.length = s.maxRegs →
    ∃ t, execSeq (.encclr :: vals.map Instr.encval) s = .next t ∧ t.valLen.toNat = s.maxRegs ∧ t.val.Holds vals ∧
      exec (.encval v) t = .next (Rejected 3#8 (BitVec.ofNat 32 (0x13000000 + v.toNat)) t))

/-- R71 and R121: the frame byte by byte, big-endian but for the CRC, which covers every byte before it. -/
def Obligations.EncodeFrameLayout : Prop :=
  ∀ (sid fc : Byte) (addr : Half) (vals : List Half), vals.length ≤ Config.maxMaxRegs →
    let f := encodeFrame sid fc addr vals
    let k := vals.length
    let c := (crc16 (f.take (6 + 2 * k))).toNat
    f.length = 8 + 2 * k ∧ f.getD 0 0#8 = sid ∧ f.getD 1 0#8 = fc ∧
    (f.getD 2 0#8).toNat = addr.toNat / 256 ∧ (f.getD 3 0#8).toNat = addr.toNat % 256 ∧
    (f.getD 4 0#8).toNat = k / 256 ∧ (f.getD 5 0#8).toNat = k % 256 ∧
    (∀ j v, vals[j]? = some v →
      (f.getD (6 + 2 * j) 0#8).toNat = v.toNat / 256 ∧ (f.getD (7 + 2 * j) 0#8).toNat = v.toNat % 256) ∧
    (f.getD (6 + 2 * k) 0#8).toNat = c % 256 ∧ (f.getD (7 + 2 * k) 0#8).toNat = c / 256

/-- R127, ENCGO: the frame of the four inputs into TXB, entries above it kept, every other register kept; from its word too;
"a repeated ENCGO builds the identical frame". Where the VAL entries below VAL_LEN are written (as Inv says) no free value is
drawn. -/
def Obligations.EncgoCommand : Prop :=
  (∀ s : State, ∃ t, exec .encgo s = .next t ∧
    t = { s with txb := t.txb, txLen := t.txLen, draws := t.draws }) ∧
  (∀ (s : State) (vals : List Half), s.LegalMaxRegs → vals.length = s.valLen.toNat → vals.length ≤ s.maxRegs →
    s.val.Holds vals →
    ∃ t, exec .encgo s = .next t ∧ t = { s with txb := t.txb, txLen := t.txLen } ∧
      t.txLen.toNat = 8 + 2 * vals.length ∧ t.txLen.toNat ≤ s.frameMax ∧
      t.txb.Holds (encodeFrame s.encSid s.encFc s.encAddr vals) ∧
      (∀ i, t.txLen.toNat ≤ i → t.txb.lookup i = s.txb.lookup i)) ∧
  (∀ (s : State) (w : Word) (rest : List HostItem), s.Presents w rest → opcodeOf w = 0x14#8 →
    (w.extractLsb' 0 24 = 0#24 → step s = exec .encgo { s with port := rest }) ∧
    (w.extractLsb' 0 24 ≠ 0#24 → step s = .next (Rejected 2#8 w { s with port := rest }))) ∧
  (∀ s : State, s.Inv → ∃ t, exec .encgo s = .next t ∧ exec .encgo t = .next t)

/-- R129: after ENCGO the last two bytes of TXB[0..TX_LEN) are the CRC-16 of all the bytes before them. -/
def Obligations.EncgoLeavesAValidCrc : Prop :=
  ∀ s : State, s.Inv → ∃ t f, exec .encgo s = .next t ∧ f.length = t.txLen.toNat ∧ 8 ≤ f.length ∧
    t.txb.Holds f ∧ (crc16 (f.take (f.length - 2))).toNat = receivedValue f

/-! ### The decoder (42_decoder.md) -/

/-- R141, RXCLR; a DECGO right after it reports FRAME_TOO_SHORT. -/
def Obligations.RxclrCommand : Prop :=
  (∀ s : State, exec .rxclr s = .next { s with rxLen := 0#16 }) ∧
  (∀ (s : State) (w : Word) (rest : List HostItem), s.Presents w rest → opcodeOf w = 0x20#8 →
    (w.extractLsb' 0 24 = 0#24 → step s = .next { s with port := rest, rxLen := 0#16 }) ∧
    (w.extractLsb' 0 24 ≠ 0#24 → step s = .next (Rejected 2#8 w { s with port := rest }))) ∧
  (∀ s : State, ∃ t, execSeq [.rxclr, .decgo] s = .next t ∧ t.decStatus = 2#8 ∧ t.decLen = 0#16)

/-- R142, RXBYTE: appended at RX_LEN, every other entry kept; rejected with RX_FULL when RX_LEN = FRAME_MAX; of a longer
frame the bytes past FRAME_MAX are lost, and each of them is a rejection. -/
def Obligations.RxbyteCommand : Prop :=
  (∀ (b : Byte) (s : State), s.rxLen.toNat ≠ s.frameMax → ∃ t, exec (.rxbyte b) s = .next t ∧
    t = { s with rxb := t.rxb, rxLen := s.rxLen + 1#16 } ∧
    t.rxb.lookup s.rxLen.toNat = some b ∧
    (∀ i, i ≠ s.rxLen.toNat → t.rxb.lookup i = s.rxb.lookup i) ∧
    (s.Inv → t.rxLen.toNat = s.rxLen.toNat + 1 ∧ t.rxLen.toNat ≤ t.frameMax)) ∧
  (∀ (s : State) (w : Word) (rest : List HostItem), s.Presents w rest → opcodeOf w = 0x21#8 →
    (w.extractLsb' 8 16 ≠ 0#16 → step s = .next (Rejected 2#8 w { s with port := rest })) ∧
    (w.extractLsb' 8 16 = 0#16 → s.rxLen.toNat = s.frameMax →
      step s = .next (Rejected 4#8 w { s with port := rest })) ∧
    (w.extractLsb' 8 16 = 0#16 → s.rxLen.toNat ≠ s.frameMax →
      step s = exec (.rxbyte (w.extractLsb' 0 8)) { s with port := rest })) ∧
  (∀ (s : State) (bytes more : List Byte), s.LegalMaxRegs → bytes.length = s.frameMax →
    ∃ t u, execSeq (.rxclr :: bytes.map Instr.rxbyte) s = .next t ∧ execSeq (more.map Instr.rxbyte) t = .next u ∧
      t.rxLen.toNat = bytes.length ∧ t.rxb.Holds bytes ∧
      u = { t with errCause := u.errCause, errCmd := u.errCmd, errCount := u.errCount } ∧
      u.errCount.toNat = min (t.errCount.toNat + more.length) 0xFFFF)

/-- R208 with R144, R148, R149, R150, R151 and R152: the one outcome, by the first failing step, as a code of DEC_STATUS (R27). -/
def Obligations.DecodeOutcomePriority : Prop :=
  ∀ (r : List Byte) (lenient : Bool),
    statusCode (decodeFrame r lenient).status =
      if r.length < 8 then 2#8
      else if (crc16 (r.take (r.length - 2))).toNat ≠ receivedValue r then 3#8
      else if (r.length - 8) % 2 = 1 then 4#8
      else if lenient = false ∧ 2 * fieldValue r 4 ≠ r.length - 8 then 4#8
      else 1#8

/-- R153: the fields of a successful decode, the values in wire order. -/
def Obligations.DecodeSuccessFields : Prop :=
  ∀ (r : List Byte) (lenient : Bool), (decodeFrame r lenient).status = .ok →
    let d := decodeFrame r lenient
    d.len = r.length ∧ d.sid = r.getD 0 0#8 ∧ d.fc = r.getD 1 0#8 ∧
    d.addr.toNat = fieldValue r 2 ∧ d.count.toNat = fieldValue r 4 ∧
    2 * d.nval = r.length - 8 ∧ d.vals.length = d.nval ∧
    (∀ j v, d.vals[j]? = some v → v.toNat = fieldValue r (6 + 2 * j)) ∧
    d.crcCalc = crc16 (r.take (r.length - 2)) ∧ d.crcRcv = d.crcCalc

/-- R154: a failing decode returns no partial frame; the CRCs are reported when n >= 8 and are 0 otherwise. -/
def Obligations.DecodeFailureFields : Prop :=
  ∀ (r : List Byte) (lenient : Bool), (decodeFrame r lenient).status ≠ .ok →
    let d := decodeFrame r lenient
    d.len = r.length ∧ d.sid = 0#8 ∧ d.fc = 0#8 ∧ d.addr = 0#16 ∧ d.count = 0#16 ∧ d.nval = 0 ∧ d.vals = [] ∧
    (8 ≤ r.length → d.crcCalc = crc16 (r.take (r.length - 2)) ∧ d.crcRcv.toNat = receivedValue r) ∧
    (r.length < 8 → d.crcCalc = 0#16 ∧ d.crcRcv = 0#16)

/-- R155 and R156, DECGO: the result of decoding RXB[0..RX_LEN) in the mode of CTRL.LENIENT goes to the DEC_* registers and
to DEC_VAL[0..nval), which it always fits; everything else is kept; from its word too; a repeated DECGO gives the same
result, and one in the other mode may give another (95_test_vectors.md V-DEC-9). -/
def Obligations.DecgoCommand : Prop :=
  (∀ s : State, ∃ t, exec .decgo s = .next t ∧
    t = { s with decStatus := t.decStatus, decLen := t.decLen, decSid := t.decSid, decFc := t.decFc,
                 decAddr := t.decAddr, decCount := t.decCount, decNval := t.decNval, decVal := t.decVal,
                 decCrcCalc := t.decCrcCalc, decCrcRcv := t.decCrcRcv, draws := t.draws }) ∧
  (∀ (s : State) (r : List Byte), r.length = s.rxLen.toNat → s.rxb.Holds r →
    let d := decodeFrame r (s.ctrl.getLsbD 0)
    ∃ t, exec .decgo s = .next t ∧
      t = { s with decStatus := statusCode d.status, decLen := s.rxLen, decSid := d.sid, decFc := d.fc,
                   decAddr := d.addr, decCount := d.count, decNval := t.decNval, decVal := t.decVal,
                   decCrcCalc := d.crcCalc, decCrcRcv := d.crcRcv } ∧
      t.decNval.toNat = d.nval ∧ d.vals.length = d.nval ∧ t.decVal.Holds d.vals ∧
      (s.rxLen.toNat ≤ s.frameMax → d.nval ≤ s.maxRegs) ∧
      (∀ i, d.nval ≤ i → t.decVal.lookup i = s.decVal.lookup i)) ∧
  (∀ (s : State) (w : Word) (rest : List HostItem), s.Presents w rest → opcodeOf w = 0x22#8 →
    (w.extractLsb' 0 24 = 0#24 → step s = exec .decgo { s with port := rest }) ∧
    (w.extractLsb' 0 24 ≠ 0#24 → step s = .next (Rejected 2#8 w { s with port := rest }))) ∧
  (∀ s : State, s.Inv → ∃ t, exec .decgo s = .next t ∧ exec .decgo t = .next t) ∧
  (∃ r : List Byte, (decodeFrame r false).status = .truncatedValues ∧ (decodeFrame r true).status = .ok)

/-- R32: in strict mode DEC_COUNT = DEC_NVAL after every DECGO that succeeds (and after every one that fails, where both are 0). -/
def Obligations.StrictModeCountsAgree : Prop :=
  ∀ s : State, s.ctrl.getLsbD 0 = false → ∃ t, exec .decgo s = .next t ∧ t.decCount = t.decNval

/-- R158: decoding an encoded frame gives its fields back in both modes, as a function and through RXCLR, RXBYTE and DECGO. -/
def Obligations.EncodeDecodeInverse : Prop :=
  ∀ (sid fc : Byte) (addr : Half) (vals : List Half), vals.length ≤ Config.maxMaxRegs →
    (∀ lenient : Bool, ∃ c : Half, decodeFrame (encodeFrame sid fc addr vals) lenient =
      { status := .ok, len := 8 + 2 * vals.length, sid := sid, fc := fc, addr := addr,
        count := BitVec.ofNat 16 vals.length, nval := vals.length, vals := vals, crcCalc := c, crcRcv := c }) ∧
    (∀ s : State, s.LegalMaxRegs → vals.length ≤ s.maxRegs → ∃ t,
      execSeq (.rxclr :: (encodeFrame sid fc addr vals).map Instr.rxbyte ++ [.decgo]) s = .next t ∧
      t.decStatus = 1#8 ∧ t.decSid = sid ∧ t.decFc = fc ∧ t.decAddr = addr ∧
      t.decCount.toNat = vals.length ∧ t.decNval.toNat = vals.length ∧ t.decVal.Holds vals)

/-- R159: flipping any single bit of a frame that decodes OK gives CRC_MISMATCH, in either mode, also through DECGO; a payload
bit changes the computed CRC and not the received one, a CRC bit the received one and not the computed one. -/
def Obligations.SingleBitFlipIsDetected : Prop :=
  ∀ (r : List Byte) (lenient : Bool), (decodeFrame r lenient).status = .ok →
    ∀ i j, i < r.length → j < 8 →
      (∀ mode : Bool, (decodeFrame (flipBit r i j) mode).status = .crcMismatch) ∧
      (i + 2 < r.length → receivedValue (flipBit r i j) = receivedValue r ∧
        crc16 ((flipBit r i j).take (r.length - 2)) ≠ crc16 (r.take (r.length - 2))) ∧
      (r.length ≤ i + 2 → receivedValue (flipBit r i j) ≠ receivedValue r ∧
        crc16 ((flipBit r i j).take (r.length - 2)) = crc16 (r.take (r.length - 2))) ∧
      (∀ s : State, s.rxLen.toNat = r.length → s.rxb.Holds (flipBit r i j) →
        ∃ t, exec .decgo s = .next t ∧ t.decStatus = 3#8)

/-- The converse of R158: a buffer that decodes OK in strict mode is the encoding of the fields it decodes to. -/
def Obligations.StrictDecodeIsInjective : Prop :=
  ∀ r : List Byte, (decodeFrame r false).status = .ok →
    let d := decodeFrame r false
    encodeFrame d.sid d.fc d.addr d.vals = r

/-! ### Control (43_control.md) -/

/-- R170, SETCTRL: CTRL holds the operand's bit 0; an operand with another bit set is rejected, from its word and by itself. -/
def Obligations.SetctrlCommand : Prop :=
  (∀ (half : Half) (s : State), half.toNat ≤ 1 → exec (.setctrl half) s = .next { s with ctrl := half }) ∧
  (∀ (half : Half) (s : State), 1 < half.toNat →
    exec (.setctrl half) s = .next (Rejected 2#8 (BitVec.ofNat 32 (0x30000000 + half.toNat)) s)) ∧
  (∀ (s : State) (w : Word) (rest : List HostItem), s.Presents w rest → opcodeOf w = 0x30#8 →
    (w.extractLsb' 1 23 = 0#23 →
      step s = .next { s with port := rest, ctrl := (w.extractLsb' 0 1).setWidth 16 }) ∧
    (w.extractLsb' 1 23 ≠ 0#23 → step s = .next (Rejected 2#8 w { s with port := rest })))

/-- R171, ERRCLR; a rejected ERRCLR clears nothing. -/
def Obligations.ErrclrCommand : Prop :=
  (∀ s : State, exec .errclr s = .next { s with errCause := 0#8, errCmd := 0#32, errCount := 0#16 }) ∧
  ∀ (s : State) (w : Word) (rest : List HostItem), s.Presents w rest → opcodeOf w = 0x31#8 →
    (w.extractLsb' 0 24 = 0#24 →
      step s = .next { s with port := rest, errCause := 0#8, errCmd := 0#32, errCount := 0#16 }) ∧
    (w.extractLsb' 0 24 ≠ 0#24 → step s = .next (Rejected 2#8 w { s with port := rest }))

/-- The column "written by" of 10_state.md's summary table: which commands may change which register or buffer. -/
def Obligations.OnlyListedCommandsWrite : Prop :=
  ∀ (i : Instr) (s : State), ∃ t, exec i s = .next t ∧
    (i.opcode ∉ [Opcode.crcinit, .crcbyte] → t.crcAcc = s.crcAcc) ∧
    (i.opcode ≠ .setctrl → t.ctrl = s.ctrl) ∧
    (i.opcode ≠ .enchdr → t.encSid = s.encSid ∧ t.encFc = s.encFc) ∧
    (i.opcode ≠ .encaddr → t.encAddr = s.encAddr) ∧
    (i.opcode ≠ .encval → t.val = s.val) ∧
    (i.opcode ∉ [Opcode.encclr, .encval] → t.valLen = s.valLen) ∧
    (i.opcode ≠ .encgo → t.txb = s.txb ∧ t.txLen = s.txLen) ∧
    (i.opcode ≠ .rxbyte → t.rxb = s.rxb) ∧
    (i.opcode ∉ [Opcode.rxclr, .rxbyte] → t.rxLen = s.rxLen) ∧
    (i.opcode ≠ .decgo → t.decStatus = s.decStatus ∧ t.decLen = s.decLen ∧ t.decSid = s.decSid ∧
      t.decFc = s.decFc ∧ t.decAddr = s.decAddr ∧ t.decCount = s.decCount ∧ t.decNval = s.decNval ∧
      t.decVal = s.decVal ∧ t.decCrcCalc = s.decCrcCalc ∧ t.decCrcRcv = s.decCrcRcv) ∧
    t.paramMaxRegs = s.paramMaxRegs ∧ t.port = s.port ∧ t.answers = s.answers

/-! ### The read port (20_memory.md) -/

/-- R42 with R41's zero-extension: every scalar register reads at its address, and a read there draws nothing. -/
def Obligations.RegistersReadAtTheirAddresses : Prop :=
  ∀ (s : State) (a v : Word), (a, v) ∈ s.registerMap → ∀ rest, s.port = .read a :: rest →
    step s = .next { s with port := rest, answers := s.answers ++ [v] }

/-- R43: every window entry below its capacity reads what was last written there, zero-extended; an unwritten one gives
some value of the entry's width, and the next draw is another. The count of draws is the model's own (log entry 4). -/
def Obligations.WindowsReadTheBuffers : Prop :=
  (∀ (s : State) (a : Word) (rest : List HostItem), s.port = .read a :: rest →
    step s = .next { s with port := rest, answers := s.answers ++ [(readPort s a).1], draws := (readPort s a).2 }) ∧
  ∀ (s : State) (i : Nat), s.LegalMaxRegs →
    (∀ v, i < s.maxRegs → s.val.lookup i = some v →
      readPort s (BitVec.ofNat 32 (0x10000 + i)) = (v.setWidth 32, s.draws)) ∧
    (∀ v, i < s.maxRegs → s.decVal.lookup i = some v →
      readPort s (BitVec.ofNat 32 (0x20000 + i)) = (v.setWidth 32, s.draws)) ∧
    (∀ v, i < s.frameMax → s.txb.lookup i = some v →
      readPort s (BitVec.ofNat 32 (0x30000 + i)) = (v.setWidth 32, s.draws)) ∧
    (∀ v, i < s.frameMax → s.rxb.lookup i = some v →
      readPort s (BitVec.ofNat 32 (0x40000 + i)) = (v.setWidth 32, s.draws)) ∧
    (∀ a, s.UnwrittenAt a → (readPort s a).2 = s.draws + 1 ∧ (readPort s a).1.toNat < 2 ^ 16 ∧
      (0x30000 ≤ a.toNat → (readPort s a).1.toNat < 2 ^ 8))

/-- R44: every other address reads 0 and changes no state. -/
def Obligations.UnmappedAddressesReadZero : Prop :=
  ∀ (s : State) (a : Word), (∀ v, (a, v) ∉ s.registerMap) → ¬ s.InWindow a → ∀ rest, s.port = .read a :: rest →
    step s = .next { s with port := rest, answers := s.answers ++ [0#32] }

/-- R41 and R45: a read changes no register, no buffer entry and no error register; two reads of one address with no command
between them agree unless it names an unwritten entry. -/
def Obligations.ReadsHaveNoSideEffects : Prop :=
  (∀ (s : State) (a : Word) (rest : List HostItem), s.port = .read a :: rest →
    ∃ v d, step s = .next { s with port := rest, answers := s.answers ++ [v], draws := d } ∧ s.draws ≤ d) ∧
  (∀ (s : State) (a : Word) (rest : List HostItem), s.port = .read a :: .read a :: rest → ¬ s.UnwrittenAt a →
    ∃ v, Host.Core.run core 2 s = .next { s with port := rest, answers := s.answers ++ [v, v] })

/-! ### Reset (70_reset_and_hazards.md) -/

/-- R240's values: reset, as an item the host presents and as the state the machine starts in (at the default MAX_REGS,
R7). The queue, the answers and the count of draws, which reset keeps, are the model's own (log entries 1, 3, 4 and 6). -/
def Obligations.ResetValues : Prop :=
  (∀ (s : State) (rest : List HostItem), s.port = .reset :: rest → step s = .next
    { crcAcc := 0xFFFF#16, ctrl := 0#16, errCause := 0#8, errCmd := 0#32, errCount := 0#16, encSid := 0#8, encFc := 0#8,
      encAddr := 0#16, val := [], valLen := 0#16, txb := [], txLen := 0#16, rxb := [], rxLen := 0#16, decStatus := 0#8,
      decLen := 0#16, decSid := 0#8, decFc := 0#8, decAddr := 0#16, decCount := 0#16, decNval := 0#16, decVal := [],
      decCrcCalc := 0#16, decCrcRcv := 0#16, paramMaxRegs := s.paramMaxRegs, port := rest, answers := s.answers,
      draws := s.draws }) ∧
  (∀ rest : List HostItem, step { State.reset with port := .reset :: rest } = .next { State.reset with port := rest }) ∧
  State.reset.paramMaxRegs = 125#16 ∧ State.reset.crcAcc = 0xFFFF#16

/-- The reset state of every legal MAX_REGS meets the invariant. -/
def Obligations.ResetMeetsTheInvariant : Prop :=
  (∀ m : Half, 1 ≤ m.toNat → m.toNat ≤ 32763 → (State.resetWith m).Inv) ∧ State.reset.Inv

/-- R38: the invariant is kept by every step, whatever the host presents. -/
def Obligations.StepKeepsTheInvariant : Prop :=
  ∀ s : State, s.Inv → ∃ t, step s = .next t ∧ t.Inv

/-- R39 and R241: no command reads an unwritten entry, so no free value reaches any register: a command draws none, and its
effect is the same whatever has been drawn before. -/
def Obligations.CommandsUseNoFreeValue : Prop :=
  ∀ (s : State) (i : Instr), s.Inv → ∃ t, exec i s = .next t ∧ t.draws = s.draws ∧
    ∀ d : Nat, exec i { s with draws := d } = .next { t with draws := d }

/-- R39: once an entry has been written it holds a written value until reset, and only the step that writes it changes it. -/
def Obligations.WrittenEntriesStayWritten : Prop :=
  ∀ (s : State) (item : HostItem) (rest : List HostItem), s.port = item :: rest → item ≠ .reset →
    ∃ t, step s = .next t ∧ ∀ i,
      ((s.val.lookup i).isSome → (t.val.lookup i).isSome) ∧ ((s.txb.lookup i).isSome → (t.txb.lookup i).isSome) ∧
      ((s.rxb.lookup i).isSome → (t.rxb.lookup i).isSome) ∧
      ((s.decVal.lookup i).isSome → (t.decVal.lookup i).isSome) ∧
      (i ≠ s.valLen.toNat → t.val.lookup i = s.val.lookup i) ∧
      (i ≠ s.rxLen.toNat → t.rxb.lookup i = s.rxb.lookup i) ∧
      (t.txLen.toNat ≤ i → s.Inv → t.txb.lookup i = s.txb.lookup i) ∧
      (t.decNval.toNat ≤ i → t.decVal.lookup i = s.decVal.lookup i)

/-! ### The assembler's notation (30_encoding.md R74, R75) -/

/-- R74's table: the word of each form, the ranges its operands must be in, and the refusal of a missing or extra operand. In
the last clause, that `.word n` is refused unless n fits 32 bits is the model's choice (DESIGN CHOICE, log entry 10): R74 says
only that the word is emitted as given. -/
def Obligations.AssemblerWords : Prop :=
  ∀ (m : Nat) (ops : List Nat),
    asmLine m (.op .crcinit ops) = (if ops = [] then some [0x01000000#32] else none) ∧
    asmLine m (.op .encclr ops) = (if ops = [] then some [0x12000000#32] else none) ∧
    asmLine m (.op .encgo ops) = (if ops = [] then some [0x14000000#32] else none) ∧
    asmLine m (.op .rxclr ops) = (if ops = [] then some [0x20000000#32] else none) ∧
    asmLine m (.op .decgo ops) = (if ops = [] then some [0x22000000#32] else none) ∧
    asmLine m (.op .errclr ops) = (if ops = [] then some [0x31000000#32] else none) ∧
    (∀ b, ops = [b] → asmLine m (.op .crcbyte ops) = if b ≤ 255 then some [BitVec.ofNat 32 (0x02000000 + b)] else none) ∧
    (∀ b, ops = [b] → asmLine m (.op .rxbyte ops) = if b ≤ 255 then some [BitVec.ofNat 32 (0x21000000 + b)] else none) ∧
    (∀ a, ops = [a] → asmLine m (.op .encaddr ops) = if a ≤ 65535 then some [BitVec.ofNat 32 (0x11000000 + a)] else none) ∧
    (∀ v, ops = [v] → asmLine m (.op .encval ops) = if v ≤ 65535 then some [BitVec.ofNat 32 (0x13000000 + v)] else none) ∧
    (∀ v, ops = [v] → asmLine m (.op .setctrl ops) = if v ≤ 1 then some [BitVec.ofNat 32 (0x30000000 + v)] else none) ∧
    (∀ sid fc, ops = [sid, fc] → asmLine m (.op .enchdr ops) =
      if sid ≤ 255 ∧ fc ≤ 255 then some [BitVec.ofNat 32 (0x10000000 + 256 * sid + fc)] else none) ∧
    (ops.length ≠ 1 → ∀ c ∈ [Mnemonic.crcbyte, .rxbyte, .encaddr, .encval, .setctrl], asmLine m (.op c ops) = none) ∧
    (ops.length ≠ 2 → asmLine m (.op .enchdr ops) = none) ∧
    (∀ n, asmLine m (.word n) = if n < 2 ^ 32 then some [BitVec.ofNat 32 n] else none)

/-- R75's table: the words each pseudo-instruction expands to, and the refusals by capacity. That DECODE is refused where its
RXLOAD is is the model's inference (log entry 15). -/
def Obligations.PseudoInstructionsExpand : Prop :=
  ∀ (m : Nat) (bytes : List Byte) (sid fc : Byte) (addr : Half) (vals : List Half),
    asmLine m (.op .crcseq (bytes.map BitVec.toNat)) =
      some (0x01000000#32 :: bytes.map fun b => BitVec.ofNat 32 (0x02000000 + b.toNat)) ∧
    asmLine m (.op .rxload (bytes.map BitVec.toNat)) =
      (if bytes.length ≤ 8 + 2 * m then
        some (0x20000000#32 :: bytes.map fun b => BitVec.ofNat 32 (0x21000000 + b.toNat)) else none) ∧
    asmLine m (.op .decode (bytes.map BitVec.toNat)) =
      (if bytes.length ≤ 8 + 2 * m then
        some (0x20000000#32 :: (bytes.map fun b => BitVec.ofNat 32 (0x21000000 + b.toNat)) ++ [0x22000000#32])
       else none) ∧
    asmLine m (.op .strict []) = some [0x30000000#32] ∧ asmLine m (.op .lenient []) = some [0x30000001#32] ∧
    asmLine m (.op .encode (sid.toNat :: fc.toNat :: addr.toNat :: vals.map BitVec.toNat)) =
      (if vals.length ≤ m then
        some ([BitVec.ofNat 32 (0x10000000 + 256 * sid.toNat + fc.toNat), BitVec.ofNat 32 (0x11000000 + addr.toNat),
          0x12000000#32] ++ (vals.map fun v => BitVec.ofNat 32 (0x13000000 + v.toNat)) ++ [0x14000000#32])
       else none)

/-- R243 and R75: the ENCODE pseudo-instruction builds the frame of its operands from any state, and leaves everything but
the encoder's registers and buffers as it was. -/
def Obligations.PseudoEncodeBuildsTheFrame : Prop :=
  ∀ (s : State) (sid fc : Byte) (addr : Half) (vals : List Half), s.LegalMaxRegs → vals.length ≤ s.maxRegs →
    ∃ is t, (Pseudo.encode sid fc addr vals).expand s.maxRegs = some is ∧ execSeq is s = .next t ∧
      t = { s with encSid := sid, encFc := fc, encAddr := addr, val := t.val,
                   valLen := BitVec.ofNat 16 vals.length, txb := t.txb, txLen := t.txLen } ∧
      t.txLen.toNat = 8 + 2 * vals.length ∧ t.val.Holds vals ∧ t.txb.Holds (encodeFrame sid fc addr vals)
end

