-- ==== Sys2Proof/Laws/Decode.lean ====
section
/-! SUPPORT. The decoder taken apart: the row an opcode names, and "w AND MASK = MATCH" as "the reserved bits are 0". -/

namespace Sys2Proof

/-- For a word with the row's opcode, whose mask leaves bits `k-1` down to 0 free (30_encoding.md R67). -/
theorem legal_iff_reserved_zero {w : Word} {op : Opcode} (k : Nat) (hk : k ≤ 24) (hop : opField w = op.byte)
    (hmask : ∀ j : Nat, j < 32 → op.mask.getLsbD j = decide (k ≤ j))
    (hmatch : ∀ j : Nat, j < 32 → op.matchWord.getLsbD j = (decide (24 ≤ j) && op.byte.getLsbD (j - 24))) :
    w &&& op.mask = op.matchWord ↔ w.extractLsb' k (24 - k) = 0#(24 - k) := by
  have hbit : ∀ j, 24 ≤ j → j < 32 → w.getLsbD j = op.byte.getLsbD (j - 24) := by
    intro j h1 h2
    rw [← hop, opField, BitVec.getLsbD_extractLsb', show 24 + (j - 24) = j by omega]
    simp [show j - 24 < 8 by omega]
  constructor
  · intro h
    refine BitVec.eq_of_getLsbD_eq fun j hj => ?_
    have hb := congrArg (fun x => x.getLsbD (k + j)) h
    rw [BitVec.getLsbD_extractLsb']
    simp only [BitVec.getLsbD_and, hmask (k + j) (by omega), hmatch (k + j) (by omega)] at hb
    simp [show ¬ 24 ≤ k + j by omega] at hb
    simp [hb]
  · intro h
    refine BitVec.eq_of_getLsbD_eq fun j hj => ?_
    rw [BitVec.getLsbD_and, hmask j hj, hmatch j hj]
    by_cases h24 : 24 ≤ j
    · simp [h24, show k ≤ j by omega, hbit j h24 hj]
    · by_cases hkj : k ≤ j
      · have hb := congrArg (fun x => x.getLsbD (j - k)) h
        simp only [BitVec.getLsbD_extractLsb', show k + (j - k) = j by omega, BitVec.getLsbD_zero] at hb
        simp [show j - k < 24 - k by omega] at hb
        simp [h24, hkj, hb]
      · simp [h24, hkj]

theorem ofByte_eq_some {b : Byte} {op : Opcode} : Opcode.ofByte b = some op ↔ op.byte = b := by
  constructor
  · intro h
    simpa using List.find?_some h
  · rintro rfl
    cases op <;> decide

theorem ofByte_eq_none {b : Byte} : Opcode.ofByte b = none ↔ ∀ op : Opcode, op.byte ≠ b := by
  rw [Option.eq_none_iff_forall_ne_some]
  exact forall_congr' fun op => not_congr ofByte_eq_some

theorem decode_of_opField {w : Word} (op : Opcode) (h : opField w = op.byte) :
    decode w = if w &&& op.mask = op.matchWord then .ok (op.instr w) else .error .reservedNonzero := by
  unfold decode
  rw [ofByte_eq_some.2 h.symm]

theorem decode_of_legal {w : Word} (op : Opcode) (h : opField w = op.byte) (hm : w &&& op.mask = op.matchWord) :
    decode w = .ok (op.instr w) := by
  rw [decode_of_opField op h, if_pos hm]

theorem decode_of_reserved {w : Word} (op : Opcode) (h : opField w = op.byte) (hm : w &&& op.mask ≠ op.matchWord) :
    decode w = .error .reservedNonzero := by
  rw [decode_of_opField op h, if_neg hm]

theorem decode_of_undefined {w : Word} (h : ∀ op : Opcode, op.byte ≠ opField w) :
    decode w = .error .illegalOpcode := by
  unfold decode
  rw [ofByte_eq_none.2 h]

/-- The three ways a word decodes (30_encoding.md R69). -/
theorem decode_cases (w : Word) :
    ((∀ op : Opcode, op.byte ≠ opField w) ∧ decode w = .error .illegalOpcode) ∨
    ∃ op : Opcode, opField w = op.byte ∧
      ((w &&& op.mask ≠ op.matchWord ∧ decode w = .error .reservedNonzero) ∨
        (w &&& op.mask = op.matchWord ∧ decode w = .ok (op.instr w))) := by
  cases h : Opcode.ofByte (opField w) with
  | none => exact .inl ⟨ofByte_eq_none.1 h, decode_of_undefined (ofByte_eq_none.1 h)⟩
  | some op =>
    have ho := (ofByte_eq_some.1 h).symm
    refine .inr ⟨op, ho, ?_⟩
    by_cases hm : w &&& op.mask = op.matchWord
    · exact .inr ⟨hm, decode_of_legal op ho hm⟩
    · exact .inl ⟨hm, decode_of_reserved op ho hm⟩

end Sys2Proof
end

