-- ==== Sys2Proof/Laws/Memory.lean ====
section
/-! SUPPORT. The laws of a buffer: read after write, the canonical form is kept, and reading a written sequence. -/

namespace Sys2Proof.Machine

variable {w : Nat}

/-! ### One entry -/

@[simp] theorem Memory.lookup_nil (i : Nat) : Memory.lookup ([] : Memory w) i = none := rfl

@[simp] theorem Memory.lookup_write_same (m : Memory w) (i : Nat) (v : BitVec w) :
    (m.write i v).lookup i = some v := by
  induction m with
  | nil => simp [Memory.write, Memory.lookup]
  | cons c rest ih =>
    obtain ⟨j, u⟩ := c
    by_cases h1 : i < j
    · simp [Memory.write, Memory.lookup, h1]
    · by_cases h2 : i = j
      · simp [Memory.write, Memory.lookup, h2]
      · have h3 : ¬ j = i := fun h => h2 h.symm
        simp [Memory.write, Memory.lookup, h1, h2, h3, ih]

theorem Memory.lookup_write_ne (m : Memory w) {i j : Nat} (v : BitVec w) (h : j ≠ i) :
    (m.write i v).lookup j = m.lookup j := by
  induction m with
  | nil => simp [Memory.write, Memory.lookup, Ne.symm h]
  | cons c rest ih =>
    obtain ⟨k, u⟩ := c
    by_cases h1 : i < k
    · simp [Memory.write, Memory.lookup, h1, Ne.symm h]
    · by_cases h2 : i = k
      · subst h2
        simp [Memory.write, Memory.lookup, Ne.symm h]
      · simp [Memory.write, Memory.lookup, h1, h2, ih]

/-! ### A sequence of entries -/

/-- What an entry holds after a sequence is written from `start`. -/
theorem Memory.lookup_writeSeq (m : Memory w) (start : Nat) (vs : List (BitVec w)) (i : Nat) :
    (m.writeSeq start vs).lookup i =
      if start ≤ i ∧ i < start + vs.length then vs[i - start]? else m.lookup i := by
  induction vs generalizing m start with
  | nil =>
    have h : ¬ (start ≤ i ∧ i < start + 0) := by omega
    simp [Memory.writeSeq]
  | cons v vs ih =>
    rw [Memory.writeSeq, ih]
    by_cases h : i = start
    · subst h
      have h1 : ¬ (i + 1 ≤ i ∧ i < i + 1 + vs.length) := by omega
      simp
    · rw [Memory.lookup_write_ne m v h, List.length_cons]
      by_cases h2 : start + 1 ≤ i ∧ i < start + 1 + vs.length
      · have h3 : start ≤ i ∧ i < start + (vs.length + 1) := by omega
        have h4 : i - start = (i - (start + 1)) + 1 := by omega
        rw [if_pos h2, if_pos h3, h4, List.getElem?_cons_succ]
      · have h3 : ¬ (start ≤ i ∧ i < start + (vs.length + 1)) := by omega
        rw [if_neg h2, if_neg h3]

theorem Memory.lookup_writeSeq_outside (m : Memory w) {start i : Nat} {vs : List (BitVec w)}
    (h : ¬ (start ≤ i ∧ i < start + vs.length)) : (m.writeSeq start vs).lookup i = m.lookup i := by
  rw [Memory.lookup_writeSeq, if_neg h]

theorem Memory.writeSeq_holds (m : Memory w) (vs : List (BitVec w)) : (m.writeSeq 0 vs).Holds vs := by
  intro i hi
  have h : 0 ≤ i ∧ i < 0 + vs.length := by omega
  rw [Memory.lookup_writeSeq, if_pos h, Nat.sub_zero]

/-- Appending one entry behind a held sequence. -/
theorem Memory.holds_write_append {m : Memory w} {vs : List (BitVec w)} (h : m.Holds vs) (v : BitVec w) :
    (m.write vs.length v).Holds (vs ++ [v]) := by
  intro i hi
  rw [List.length_append, List.length_singleton] at hi
  by_cases hlt : i < vs.length
  · rw [Memory.lookup_write_ne m v (by omega), h i hlt, List.getElem?_append_left hlt]
  · have : i = vs.length := by omega
    subst this
    simp

theorem Memory.holds_nil (m : Memory w) : m.Holds [] := by
  intro i hi
  simp at hi

/-! ### Reading -/

theorem Memory.read_of_lookup {m : Memory w} {i : Nat} {v : BitVec w} (h : m.lookup i = some v) (draws : Nat) :
    m.read i draws = (v, draws) := by
  simp [Memory.read, h]

theorem Memory.read_unwritten {m : Memory w} {i : Nat} (h : m.lookup i = none) (draws : Nat) :
    m.read i draws = (Config.freeDraw w draws, draws + 1) := by
  simp [Memory.read, h]

theorem Memory.readSeq_length (m : Memory w) (start n draws : Nat) :
    (m.readSeq start n draws).1.length = n := by
  induction n generalizing start draws with
  | zero => rfl
  | succ n ih => simp [Memory.readSeq, ih]

/-- Reading written entries draws nothing. -/
theorem Memory.readSeq_of_lookup {m : Memory w} (vs : List (BitVec w)) (start draws : Nat)
    (h : ∀ i, i < vs.length → m.lookup (start + i) = vs[i]?) :
    m.readSeq start vs.length draws = (vs, draws) := by
  induction vs generalizing start with
  | nil => rfl
  | cons v vs ih =>
    have h0 : m.lookup start = some v := by simpa using h 0 (by simp)
    have ht : m.readSeq (start + 1) vs.length draws = (vs, draws) := by
      apply ih
      intro i hi
      have := h (i + 1) (by simpa using hi)
      rw [show start + 1 + i = start + (i + 1) by omega, this, List.getElem?_cons_succ]
    simp [Memory.readSeq, Memory.read_of_lookup h0, ht]

theorem Memory.readSeq_of_holds {m : Memory w} {vs : List (BitVec w)} (h : m.Holds vs) (draws : Nat) :
    m.readSeq 0 vs.length draws = (vs, draws) :=
  Memory.readSeq_of_lookup vs 0 draws (by simpa [Memory.Holds] using h)

/-! ### The canonical form -/

theorem Memory.wf_cons {cap i : Nat} {v : BitVec w} {rest : Memory w} :
    Memory.wf cap ((i, v) :: rest) = true ↔
      i < cap ∧ (∀ c ∈ rest, i < c.1) ∧ Memory.wf cap rest = true := by
  simp [Memory.wf, and_assoc]

theorem Memory.mem_write {m : Memory w} {i : Nat} {v : BitVec w} {c : Nat × BitVec w} (h : c ∈ m.write i v) :
    c.1 = i ∨ c ∈ m := by
  induction m with
  | nil =>
    have : c = (i, v) := by simpa [Memory.write] using h
    exact .inl (by rw [this])
  | cons d rest ih =>
    obtain ⟨j, u⟩ := d
    unfold Memory.write at h
    split at h
    · rcases List.mem_cons.1 h with h | h
      · exact .inl (by rw [h])
      · exact .inr h
    · split at h
      · rcases List.mem_cons.1 h with h | h
        · exact .inl (by rw [h])
        · exact .inr (List.mem_cons_of_mem _ h)
      · rcases List.mem_cons.1 h with h | h
        · exact .inr (by rw [h]; exact List.mem_cons_self)
        · rcases ih h with h | h
          · exact .inl h
          · exact .inr (List.mem_cons_of_mem _ h)

/-- A write keeps the canonical form. -/
theorem Memory.write_wf {cap i : Nat} {m : Memory w} (v : BitVec w) (hm : m.wf cap = true) (hi : i < cap) :
    (m.write i v).wf cap = true := by
  induction m with
  | nil => simp [Memory.write, Memory.wf, hi]
  | cons c rest ih =>
    obtain ⟨j, u⟩ := c
    obtain ⟨hj, hlt, hrest⟩ := Memory.wf_cons.1 hm
    unfold Memory.write
    split
    next h =>
      refine Memory.wf_cons.2 ⟨hi, ?_, hm⟩
      intro c hc
      rcases List.mem_cons.1 hc with rfl | hc
      · exact h
      · exact Nat.lt_trans h (hlt c hc)
    next h =>
      split
      next h2 => subst h2; exact Memory.wf_cons.2 ⟨hi, hlt, hrest⟩
      next h2 =>
        refine Memory.wf_cons.2 ⟨hj, ?_, ih hrest⟩
        intro c hc
        rcases Memory.mem_write hc with h3 | h3
        · omega
        · exact hlt c h3

theorem Memory.writeSeq_wf {cap start : Nat} {m : Memory w} (vs : List (BitVec w)) (hm : m.wf cap = true)
    (hi : start + vs.length ≤ cap) : (m.writeSeq start vs).wf cap = true := by
  induction vs generalizing m start with
  | nil => exact hm
  | cons v vs ih =>
    rw [List.length_cons] at hi
    exact ih (Memory.write_wf v hm (by omega)) (by omega)

theorem Memory.nil_wf (cap : Nat) : Memory.wf cap ([] : Memory w) = true := rfl

/-- Two canonical buffers that hold the same entries are the same data. -/
theorem Memory.ext_lookup {cap : Nat} {m m' : Memory w} (hm : m.wf cap = true) (hm' : m'.wf cap = true)
    (h : ∀ i, m.lookup i = m'.lookup i) : m = m' := by
  have below {i : Nat} {l : Memory w} (hl : ∀ c ∈ l, i < c.1) : l.lookup i = none := by
    induction l with
    | nil => rfl
    | cons c l ih =>
      obtain ⟨j, u⟩ := c
      have hj : i < j := hl (j, u) List.mem_cons_self
      rw [Memory.lookup, if_neg (by omega)]
      exact ih fun c hc => hl c (List.mem_cons_of_mem _ hc)
  induction m generalizing m' with
  | nil =>
    cases m' with
    | nil => rfl
    | cons c rest => have := h c.1; simp [Memory.lookup] at this
  | cons c rest ih =>
    obtain ⟨i, u⟩ := c
    obtain ⟨-, hlt, hrest⟩ := Memory.wf_cons.1 hm
    cases m' with
    | nil => have := h i; simp [Memory.lookup] at this
    | cons c' rest' =>
      obtain ⟨i', u'⟩ := c'
      obtain ⟨-, hlt', hrest'⟩ := Memory.wf_cons.1 hm'
      have hi : i = i' := by
        rcases Nat.lt_trichotomy i i' with hc | hc | hc
        · have hn : Memory.lookup ((i', u') :: rest') i = none := below (by
            intro c hmem
            rcases List.mem_cons.1 hmem with rfl | hmem
            · exact hc
            · exact Nat.lt_trans hc (hlt' c hmem))
          have := h i
          rw [hn] at this
          simp [Memory.lookup] at this
        · exact hc
        · have hn : Memory.lookup ((i, u) :: rest) i' = none := below (by
            intro c hmem
            rcases List.mem_cons.1 hmem with rfl | hmem
            · exact hc
            · exact Nat.lt_trans hc (hlt c hmem))
          have := h i'
          rw [hn] at this
          simp [Memory.lookup] at this
      subst hi
      have hu : u = u' := by simpa [Memory.lookup] using h i
      subst hu
      refine congrArg _ (ih hrest hrest' ?_)
      intro j
      by_cases hj : i = j
      · subst hj
        rw [below hlt, below hlt']
      · simpa [Memory.lookup, hj] using h j

end Sys2Proof.Machine
end

