-- ==== Sys2Proof/Laws/State.lean ====
section
/-! SUPPORT. What each named register update does to each field: one lemma per field per update, so that no later proof
unfolds a record update. -/

namespace Sys2Proof.Machine

/-! ### setCrcAcc -/

@[simp] theorem setCrcAcc_crcAcc (s : State) (v : Half) : (s.setCrcAcc v).crcAcc = v := rfl
@[simp] theorem setCrcAcc_ctrl (s : State) (v : Half) : (s.setCrcAcc v).ctrl = s.ctrl := rfl
@[simp] theorem setCrcAcc_errCause (s : State) (v : Half) : (s.setCrcAcc v).errCause = s.errCause := rfl
@[simp] theorem setCrcAcc_errCmd (s : State) (v : Half) : (s.setCrcAcc v).errCmd = s.errCmd := rfl
@[simp] theorem setCrcAcc_errCount (s : State) (v : Half) : (s.setCrcAcc v).errCount = s.errCount := rfl
@[simp] theorem setCrcAcc_encSid (s : State) (v : Half) : (s.setCrcAcc v).encSid = s.encSid := rfl
@[simp] theorem setCrcAcc_encFc (s : State) (v : Half) : (s.setCrcAcc v).encFc = s.encFc := rfl
@[simp] theorem setCrcAcc_encAddr (s : State) (v : Half) : (s.setCrcAcc v).encAddr = s.encAddr := rfl
@[simp] theorem setCrcAcc_val (s : State) (v : Half) : (s.setCrcAcc v).val = s.val := rfl
@[simp] theorem setCrcAcc_valLen (s : State) (v : Half) : (s.setCrcAcc v).valLen = s.valLen := rfl
@[simp] theorem setCrcAcc_txb (s : State) (v : Half) : (s.setCrcAcc v).txb = s.txb := rfl
@[simp] theorem setCrcAcc_txLen (s : State) (v : Half) : (s.setCrcAcc v).txLen = s.txLen := rfl
@[simp] theorem setCrcAcc_rxb (s : State) (v : Half) : (s.setCrcAcc v).rxb = s.rxb := rfl
@[simp] theorem setCrcAcc_rxLen (s : State) (v : Half) : (s.setCrcAcc v).rxLen = s.rxLen := rfl
@[simp] theorem setCrcAcc_decStatus (s : State) (v : Half) : (s.setCrcAcc v).decStatus = s.decStatus := rfl
@[simp] theorem setCrcAcc_decLen (s : State) (v : Half) : (s.setCrcAcc v).decLen = s.decLen := rfl
@[simp] theorem setCrcAcc_decSid (s : State) (v : Half) : (s.setCrcAcc v).decSid = s.decSid := rfl
@[simp] theorem setCrcAcc_decFc (s : State) (v : Half) : (s.setCrcAcc v).decFc = s.decFc := rfl
@[simp] theorem setCrcAcc_decAddr (s : State) (v : Half) : (s.setCrcAcc v).decAddr = s.decAddr := rfl
@[simp] theorem setCrcAcc_decCount (s : State) (v : Half) : (s.setCrcAcc v).decCount = s.decCount := rfl
@[simp] theorem setCrcAcc_decNval (s : State) (v : Half) : (s.setCrcAcc v).decNval = s.decNval := rfl
@[simp] theorem setCrcAcc_decVal (s : State) (v : Half) : (s.setCrcAcc v).decVal = s.decVal := rfl
@[simp] theorem setCrcAcc_decCrcCalc (s : State) (v : Half) : (s.setCrcAcc v).decCrcCalc = s.decCrcCalc := rfl
@[simp] theorem setCrcAcc_decCrcRcv (s : State) (v : Half) : (s.setCrcAcc v).decCrcRcv = s.decCrcRcv := rfl
@[simp] theorem setCrcAcc_paramMaxRegs (s : State) (v : Half) : (s.setCrcAcc v).paramMaxRegs = s.paramMaxRegs := rfl
@[simp] theorem setCrcAcc_port (s : State) (v : Half) : (s.setCrcAcc v).port = s.port := rfl
@[simp] theorem setCrcAcc_answers (s : State) (v : Half) : (s.setCrcAcc v).answers = s.answers := rfl
@[simp] theorem setCrcAcc_draws (s : State) (v : Half) : (s.setCrcAcc v).draws = s.draws := rfl
@[simp] theorem setCrcAcc_maxRegs (s : State) (v : Half) : (s.setCrcAcc v).maxRegs = s.maxRegs := rfl
@[simp] theorem setCrcAcc_frameMax (s : State) (v : Half) : (s.setCrcAcc v).frameMax = s.frameMax := rfl

/-! ### setCtrl -/

@[simp] theorem setCtrl_crcAcc (s : State) (v : Half) : (s.setCtrl v).crcAcc = s.crcAcc := rfl
@[simp] theorem setCtrl_ctrl (s : State) (v : Half) : (s.setCtrl v).ctrl = v := rfl
@[simp] theorem setCtrl_errCause (s : State) (v : Half) : (s.setCtrl v).errCause = s.errCause := rfl
@[simp] theorem setCtrl_errCmd (s : State) (v : Half) : (s.setCtrl v).errCmd = s.errCmd := rfl
@[simp] theorem setCtrl_errCount (s : State) (v : Half) : (s.setCtrl v).errCount = s.errCount := rfl
@[simp] theorem setCtrl_encSid (s : State) (v : Half) : (s.setCtrl v).encSid = s.encSid := rfl
@[simp] theorem setCtrl_encFc (s : State) (v : Half) : (s.setCtrl v).encFc = s.encFc := rfl
@[simp] theorem setCtrl_encAddr (s : State) (v : Half) : (s.setCtrl v).encAddr = s.encAddr := rfl
@[simp] theorem setCtrl_val (s : State) (v : Half) : (s.setCtrl v).val = s.val := rfl
@[simp] theorem setCtrl_valLen (s : State) (v : Half) : (s.setCtrl v).valLen = s.valLen := rfl
@[simp] theorem setCtrl_txb (s : State) (v : Half) : (s.setCtrl v).txb = s.txb := rfl
@[simp] theorem setCtrl_txLen (s : State) (v : Half) : (s.setCtrl v).txLen = s.txLen := rfl
@[simp] theorem setCtrl_rxb (s : State) (v : Half) : (s.setCtrl v).rxb = s.rxb := rfl
@[simp] theorem setCtrl_rxLen (s : State) (v : Half) : (s.setCtrl v).rxLen = s.rxLen := rfl
@[simp] theorem setCtrl_decStatus (s : State) (v : Half) : (s.setCtrl v).decStatus = s.decStatus := rfl
@[simp] theorem setCtrl_decLen (s : State) (v : Half) : (s.setCtrl v).decLen = s.decLen := rfl
@[simp] theorem setCtrl_decSid (s : State) (v : Half) : (s.setCtrl v).decSid = s.decSid := rfl
@[simp] theorem setCtrl_decFc (s : State) (v : Half) : (s.setCtrl v).decFc = s.decFc := rfl
@[simp] theorem setCtrl_decAddr (s : State) (v : Half) : (s.setCtrl v).decAddr = s.decAddr := rfl
@[simp] theorem setCtrl_decCount (s : State) (v : Half) : (s.setCtrl v).decCount = s.decCount := rfl
@[simp] theorem setCtrl_decNval (s : State) (v : Half) : (s.setCtrl v).decNval = s.decNval := rfl
@[simp] theorem setCtrl_decVal (s : State) (v : Half) : (s.setCtrl v).decVal = s.decVal := rfl
@[simp] theorem setCtrl_decCrcCalc (s : State) (v : Half) : (s.setCtrl v).decCrcCalc = s.decCrcCalc := rfl
@[simp] theorem setCtrl_decCrcRcv (s : State) (v : Half) : (s.setCtrl v).decCrcRcv = s.decCrcRcv := rfl
@[simp] theorem setCtrl_paramMaxRegs (s : State) (v : Half) : (s.setCtrl v).paramMaxRegs = s.paramMaxRegs := rfl
@[simp] theorem setCtrl_port (s : State) (v : Half) : (s.setCtrl v).port = s.port := rfl
@[simp] theorem setCtrl_answers (s : State) (v : Half) : (s.setCtrl v).answers = s.answers := rfl
@[simp] theorem setCtrl_draws (s : State) (v : Half) : (s.setCtrl v).draws = s.draws := rfl
@[simp] theorem setCtrl_maxRegs (s : State) (v : Half) : (s.setCtrl v).maxRegs = s.maxRegs := rfl
@[simp] theorem setCtrl_frameMax (s : State) (v : Half) : (s.setCtrl v).frameMax = s.frameMax := rfl

/-! ### setErrors -/

@[simp] theorem setErrors_crcAcc (s : State) (cause : Byte) (cmd : Word) (count : Half) : (s.setErrors cause cmd count).crcAcc = s.crcAcc := rfl
@[simp] theorem setErrors_ctrl (s : State) (cause : Byte) (cmd : Word) (count : Half) : (s.setErrors cause cmd count).ctrl = s.ctrl := rfl
@[simp] theorem setErrors_errCause (s : State) (cause : Byte) (cmd : Word) (count : Half) : (s.setErrors cause cmd count).errCause = cause := rfl
@[simp] theorem setErrors_errCmd (s : State) (cause : Byte) (cmd : Word) (count : Half) : (s.setErrors cause cmd count).errCmd = cmd := rfl
@[simp] theorem setErrors_errCount (s : State) (cause : Byte) (cmd : Word) (count : Half) : (s.setErrors cause cmd count).errCount = count := rfl
@[simp] theorem setErrors_encSid (s : State) (cause : Byte) (cmd : Word) (count : Half) : (s.setErrors cause cmd count).encSid = s.encSid := rfl
@[simp] theorem setErrors_encFc (s : State) (cause : Byte) (cmd : Word) (count : Half) : (s.setErrors cause cmd count).encFc = s.encFc := rfl
@[simp] theorem setErrors_encAddr (s : State) (cause : Byte) (cmd : Word) (count : Half) : (s.setErrors cause cmd count).encAddr = s.encAddr := rfl
@[simp] theorem setErrors_val (s : State) (cause : Byte) (cmd : Word) (count : Half) : (s.setErrors cause cmd count).val = s.val := rfl
@[simp] theorem setErrors_valLen (s : State) (cause : Byte) (cmd : Word) (count : Half) : (s.setErrors cause cmd count).valLen = s.valLen := rfl
@[simp] theorem setErrors_txb (s : State) (cause : Byte) (cmd : Word) (count : Half) : (s.setErrors cause cmd count).txb = s.txb := rfl
@[simp] theorem setErrors_txLen (s : State) (cause : Byte) (cmd : Word) (count : Half) : (s.setErrors cause cmd count).txLen = s.txLen := rfl
@[simp] theorem setErrors_rxb (s : State) (cause : Byte) (cmd : Word) (count : Half) : (s.setErrors cause cmd count).rxb = s.rxb := rfl
@[simp] theorem setErrors_rxLen (s : State) (cause : Byte) (cmd : Word) (count : Half) : (s.setErrors cause cmd count).rxLen = s.rxLen := rfl
@[simp] theorem setErrors_decStatus (s : State) (cause : Byte) (cmd : Word) (count : Half) : (s.setErrors cause cmd count).decStatus = s.decStatus := rfl
@[simp] theorem setErrors_decLen (s : State) (cause : Byte) (cmd : Word) (count : Half) : (s.setErrors cause cmd count).decLen = s.decLen := rfl
@[simp] theorem setErrors_decSid (s : State) (cause : Byte) (cmd : Word) (count : Half) : (s.setErrors cause cmd count).decSid = s.decSid := rfl
@[simp] theorem setErrors_decFc (s : State) (cause : Byte) (cmd : Word) (count : Half) : (s.setErrors cause cmd count).decFc = s.decFc := rfl
@[simp] theorem setErrors_decAddr (s : State) (cause : Byte) (cmd : Word) (count : Half) : (s.setErrors cause cmd count).decAddr = s.decAddr := rfl
@[simp] theorem setErrors_decCount (s : State) (cause : Byte) (cmd : Word) (count : Half) : (s.setErrors cause cmd count).decCount = s.decCount := rfl
@[simp] theorem setErrors_decNval (s : State) (cause : Byte) (cmd : Word) (count : Half) : (s.setErrors cause cmd count).decNval = s.decNval := rfl
@[simp] theorem setErrors_decVal (s : State) (cause : Byte) (cmd : Word) (count : Half) : (s.setErrors cause cmd count).decVal = s.decVal := rfl
@[simp] theorem setErrors_decCrcCalc (s : State) (cause : Byte) (cmd : Word) (count : Half) : (s.setErrors cause cmd count).decCrcCalc = s.decCrcCalc := rfl
@[simp] theorem setErrors_decCrcRcv (s : State) (cause : Byte) (cmd : Word) (count : Half) : (s.setErrors cause cmd count).decCrcRcv = s.decCrcRcv := rfl
@[simp] theorem setErrors_paramMaxRegs (s : State) (cause : Byte) (cmd : Word) (count : Half) : (s.setErrors cause cmd count).paramMaxRegs = s.paramMaxRegs := rfl
@[simp] theorem setErrors_port (s : State) (cause : Byte) (cmd : Word) (count : Half) : (s.setErrors cause cmd count).port = s.port := rfl
@[simp] theorem setErrors_answers (s : State) (cause : Byte) (cmd : Word) (count : Half) : (s.setErrors cause cmd count).answers = s.answers := rfl
@[simp] theorem setErrors_draws (s : State) (cause : Byte) (cmd : Word) (count : Half) : (s.setErrors cause cmd count).draws = s.draws := rfl
@[simp] theorem setErrors_maxRegs (s : State) (cause : Byte) (cmd : Word) (count : Half) : (s.setErrors cause cmd count).maxRegs = s.maxRegs := rfl
@[simp] theorem setErrors_frameMax (s : State) (cause : Byte) (cmd : Word) (count : Half) : (s.setErrors cause cmd count).frameMax = s.frameMax := rfl

/-! ### setEncHeader -/

@[simp] theorem setEncHeader_crcAcc (s : State) (sid fc : Byte) : (s.setEncHeader sid fc).crcAcc = s.crcAcc := rfl
@[simp] theorem setEncHeader_ctrl (s : State) (sid fc : Byte) : (s.setEncHeader sid fc).ctrl = s.ctrl := rfl
@[simp] theorem setEncHeader_errCause (s : State) (sid fc : Byte) : (s.setEncHeader sid fc).errCause = s.errCause := rfl
@[simp] theorem setEncHeader_errCmd (s : State) (sid fc : Byte) : (s.setEncHeader sid fc).errCmd = s.errCmd := rfl
@[simp] theorem setEncHeader_errCount (s : State) (sid fc : Byte) : (s.setEncHeader sid fc).errCount = s.errCount := rfl
@[simp] theorem setEncHeader_encSid (s : State) (sid fc : Byte) : (s.setEncHeader sid fc).encSid = sid := rfl
@[simp] theorem setEncHeader_encFc (s : State) (sid fc : Byte) : (s.setEncHeader sid fc).encFc = fc := rfl
@[simp] theorem setEncHeader_encAddr (s : State) (sid fc : Byte) : (s.setEncHeader sid fc).encAddr = s.encAddr := rfl
@[simp] theorem setEncHeader_val (s : State) (sid fc : Byte) : (s.setEncHeader sid fc).val = s.val := rfl
@[simp] theorem setEncHeader_valLen (s : State) (sid fc : Byte) : (s.setEncHeader sid fc).valLen = s.valLen := rfl
@[simp] theorem setEncHeader_txb (s : State) (sid fc : Byte) : (s.setEncHeader sid fc).txb = s.txb := rfl
@[simp] theorem setEncHeader_txLen (s : State) (sid fc : Byte) : (s.setEncHeader sid fc).txLen = s.txLen := rfl
@[simp] theorem setEncHeader_rxb (s : State) (sid fc : Byte) : (s.setEncHeader sid fc).rxb = s.rxb := rfl
@[simp] theorem setEncHeader_rxLen (s : State) (sid fc : Byte) : (s.setEncHeader sid fc).rxLen = s.rxLen := rfl
@[simp] theorem setEncHeader_decStatus (s : State) (sid fc : Byte) : (s.setEncHeader sid fc).decStatus = s.decStatus := rfl
@[simp] theorem setEncHeader_decLen (s : State) (sid fc : Byte) : (s.setEncHeader sid fc).decLen = s.decLen := rfl
@[simp] theorem setEncHeader_decSid (s : State) (sid fc : Byte) : (s.setEncHeader sid fc).decSid = s.decSid := rfl
@[simp] theorem setEncHeader_decFc (s : State) (sid fc : Byte) : (s.setEncHeader sid fc).decFc = s.decFc := rfl
@[simp] theorem setEncHeader_decAddr (s : State) (sid fc : Byte) : (s.setEncHeader sid fc).decAddr = s.decAddr := rfl
@[simp] theorem setEncHeader_decCount (s : State) (sid fc : Byte) : (s.setEncHeader sid fc).decCount = s.decCount := rfl
@[simp] theorem setEncHeader_decNval (s : State) (sid fc : Byte) : (s.setEncHeader sid fc).decNval = s.decNval := rfl
@[simp] theorem setEncHeader_decVal (s : State) (sid fc : Byte) : (s.setEncHeader sid fc).decVal = s.decVal := rfl
@[simp] theorem setEncHeader_decCrcCalc (s : State) (sid fc : Byte) : (s.setEncHeader sid fc).decCrcCalc = s.decCrcCalc := rfl
@[simp] theorem setEncHeader_decCrcRcv (s : State) (sid fc : Byte) : (s.setEncHeader sid fc).decCrcRcv = s.decCrcRcv := rfl
@[simp] theorem setEncHeader_paramMaxRegs (s : State) (sid fc : Byte) : (s.setEncHeader sid fc).paramMaxRegs = s.paramMaxRegs := rfl
@[simp] theorem setEncHeader_port (s : State) (sid fc : Byte) : (s.setEncHeader sid fc).port = s.port := rfl
@[simp] theorem setEncHeader_answers (s : State) (sid fc : Byte) : (s.setEncHeader sid fc).answers = s.answers := rfl
@[simp] theorem setEncHeader_draws (s : State) (sid fc : Byte) : (s.setEncHeader sid fc).draws = s.draws := rfl
@[simp] theorem setEncHeader_maxRegs (s : State) (sid fc : Byte) : (s.setEncHeader sid fc).maxRegs = s.maxRegs := rfl
@[simp] theorem setEncHeader_frameMax (s : State) (sid fc : Byte) : (s.setEncHeader sid fc).frameMax = s.frameMax := rfl

/-! ### setEncAddr -/

@[simp] theorem setEncAddr_crcAcc (s : State) (a : Half) : (s.setEncAddr a).crcAcc = s.crcAcc := rfl
@[simp] theorem setEncAddr_ctrl (s : State) (a : Half) : (s.setEncAddr a).ctrl = s.ctrl := rfl
@[simp] theorem setEncAddr_errCause (s : State) (a : Half) : (s.setEncAddr a).errCause = s.errCause := rfl
@[simp] theorem setEncAddr_errCmd (s : State) (a : Half) : (s.setEncAddr a).errCmd = s.errCmd := rfl
@[simp] theorem setEncAddr_errCount (s : State) (a : Half) : (s.setEncAddr a).errCount = s.errCount := rfl
@[simp] theorem setEncAddr_encSid (s : State) (a : Half) : (s.setEncAddr a).encSid = s.encSid := rfl
@[simp] theorem setEncAddr_encFc (s : State) (a : Half) : (s.setEncAddr a).encFc = s.encFc := rfl
@[simp] theorem setEncAddr_encAddr (s : State) (a : Half) : (s.setEncAddr a).encAddr = a := rfl
@[simp] theorem setEncAddr_val (s : State) (a : Half) : (s.setEncAddr a).val = s.val := rfl
@[simp] theorem setEncAddr_valLen (s : State) (a : Half) : (s.setEncAddr a).valLen = s.valLen := rfl
@[simp] theorem setEncAddr_txb (s : State) (a : Half) : (s.setEncAddr a).txb = s.txb := rfl
@[simp] theorem setEncAddr_txLen (s : State) (a : Half) : (s.setEncAddr a).txLen = s.txLen := rfl
@[simp] theorem setEncAddr_rxb (s : State) (a : Half) : (s.setEncAddr a).rxb = s.rxb := rfl
@[simp] theorem setEncAddr_rxLen (s : State) (a : Half) : (s.setEncAddr a).rxLen = s.rxLen := rfl
@[simp] theorem setEncAddr_decStatus (s : State) (a : Half) : (s.setEncAddr a).decStatus = s.decStatus := rfl
@[simp] theorem setEncAddr_decLen (s : State) (a : Half) : (s.setEncAddr a).decLen = s.decLen := rfl
@[simp] theorem setEncAddr_decSid (s : State) (a : Half) : (s.setEncAddr a).decSid = s.decSid := rfl
@[simp] theorem setEncAddr_decFc (s : State) (a : Half) : (s.setEncAddr a).decFc = s.decFc := rfl
@[simp] theorem setEncAddr_decAddr (s : State) (a : Half) : (s.setEncAddr a).decAddr = s.decAddr := rfl
@[simp] theorem setEncAddr_decCount (s : State) (a : Half) : (s.setEncAddr a).decCount = s.decCount := rfl
@[simp] theorem setEncAddr_decNval (s : State) (a : Half) : (s.setEncAddr a).decNval = s.decNval := rfl
@[simp] theorem setEncAddr_decVal (s : State) (a : Half) : (s.setEncAddr a).decVal = s.decVal := rfl
@[simp] theorem setEncAddr_decCrcCalc (s : State) (a : Half) : (s.setEncAddr a).decCrcCalc = s.decCrcCalc := rfl
@[simp] theorem setEncAddr_decCrcRcv (s : State) (a : Half) : (s.setEncAddr a).decCrcRcv = s.decCrcRcv := rfl
@[simp] theorem setEncAddr_paramMaxRegs (s : State) (a : Half) : (s.setEncAddr a).paramMaxRegs = s.paramMaxRegs := rfl
@[simp] theorem setEncAddr_port (s : State) (a : Half) : (s.setEncAddr a).port = s.port := rfl
@[simp] theorem setEncAddr_answers (s : State) (a : Half) : (s.setEncAddr a).answers = s.answers := rfl
@[simp] theorem setEncAddr_draws (s : State) (a : Half) : (s.setEncAddr a).draws = s.draws := rfl
@[simp] theorem setEncAddr_maxRegs (s : State) (a : Half) : (s.setEncAddr a).maxRegs = s.maxRegs := rfl
@[simp] theorem setEncAddr_frameMax (s : State) (a : Half) : (s.setEncAddr a).frameMax = s.frameMax := rfl

/-! ### setVal -/

@[simp] theorem setVal_crcAcc (s : State) (m : Memory 16) (len : Half) : (s.setVal m len).crcAcc = s.crcAcc := rfl
@[simp] theorem setVal_ctrl (s : State) (m : Memory 16) (len : Half) : (s.setVal m len).ctrl = s.ctrl := rfl
@[simp] theorem setVal_errCause (s : State) (m : Memory 16) (len : Half) : (s.setVal m len).errCause = s.errCause := rfl
@[simp] theorem setVal_errCmd (s : State) (m : Memory 16) (len : Half) : (s.setVal m len).errCmd = s.errCmd := rfl
@[simp] theorem setVal_errCount (s : State) (m : Memory 16) (len : Half) : (s.setVal m len).errCount = s.errCount := rfl
@[simp] theorem setVal_encSid (s : State) (m : Memory 16) (len : Half) : (s.setVal m len).encSid = s.encSid := rfl
@[simp] theorem setVal_encFc (s : State) (m : Memory 16) (len : Half) : (s.setVal m len).encFc = s.encFc := rfl
@[simp] theorem setVal_encAddr (s : State) (m : Memory 16) (len : Half) : (s.setVal m len).encAddr = s.encAddr := rfl
@[simp] theorem setVal_val (s : State) (m : Memory 16) (len : Half) : (s.setVal m len).val = m := rfl
@[simp] theorem setVal_valLen (s : State) (m : Memory 16) (len : Half) : (s.setVal m len).valLen = len := rfl
@[simp] theorem setVal_txb (s : State) (m : Memory 16) (len : Half) : (s.setVal m len).txb = s.txb := rfl
@[simp] theorem setVal_txLen (s : State) (m : Memory 16) (len : Half) : (s.setVal m len).txLen = s.txLen := rfl
@[simp] theorem setVal_rxb (s : State) (m : Memory 16) (len : Half) : (s.setVal m len).rxb = s.rxb := rfl
@[simp] theorem setVal_rxLen (s : State) (m : Memory 16) (len : Half) : (s.setVal m len).rxLen = s.rxLen := rfl
@[simp] theorem setVal_decStatus (s : State) (m : Memory 16) (len : Half) : (s.setVal m len).decStatus = s.decStatus := rfl
@[simp] theorem setVal_decLen (s : State) (m : Memory 16) (len : Half) : (s.setVal m len).decLen = s.decLen := rfl
@[simp] theorem setVal_decSid (s : State) (m : Memory 16) (len : Half) : (s.setVal m len).decSid = s.decSid := rfl
@[simp] theorem setVal_decFc (s : State) (m : Memory 16) (len : Half) : (s.setVal m len).decFc = s.decFc := rfl
@[simp] theorem setVal_decAddr (s : State) (m : Memory 16) (len : Half) : (s.setVal m len).decAddr = s.decAddr := rfl
@[simp] theorem setVal_decCount (s : State) (m : Memory 16) (len : Half) : (s.setVal m len).decCount = s.decCount := rfl
@[simp] theorem setVal_decNval (s : State) (m : Memory 16) (len : Half) : (s.setVal m len).decNval = s.decNval := rfl
@[simp] theorem setVal_decVal (s : State) (m : Memory 16) (len : Half) : (s.setVal m len).decVal = s.decVal := rfl
@[simp] theorem setVal_decCrcCalc (s : State) (m : Memory 16) (len : Half) : (s.setVal m len).decCrcCalc = s.decCrcCalc := rfl
@[simp] theorem setVal_decCrcRcv (s : State) (m : Memory 16) (len : Half) : (s.setVal m len).decCrcRcv = s.decCrcRcv := rfl
@[simp] theorem setVal_paramMaxRegs (s : State) (m : Memory 16) (len : Half) : (s.setVal m len).paramMaxRegs = s.paramMaxRegs := rfl
@[simp] theorem setVal_port (s : State) (m : Memory 16) (len : Half) : (s.setVal m len).port = s.port := rfl
@[simp] theorem setVal_answers (s : State) (m : Memory 16) (len : Half) : (s.setVal m len).answers = s.answers := rfl
@[simp] theorem setVal_draws (s : State) (m : Memory 16) (len : Half) : (s.setVal m len).draws = s.draws := rfl
@[simp] theorem setVal_maxRegs (s : State) (m : Memory 16) (len : Half) : (s.setVal m len).maxRegs = s.maxRegs := rfl
@[simp] theorem setVal_frameMax (s : State) (m : Memory 16) (len : Half) : (s.setVal m len).frameMax = s.frameMax := rfl

/-! ### setTx -/

@[simp] theorem setTx_crcAcc (s : State) (m : Memory 8) (len : Half) : (s.setTx m len).crcAcc = s.crcAcc := rfl
@[simp] theorem setTx_ctrl (s : State) (m : Memory 8) (len : Half) : (s.setTx m len).ctrl = s.ctrl := rfl
@[simp] theorem setTx_errCause (s : State) (m : Memory 8) (len : Half) : (s.setTx m len).errCause = s.errCause := rfl
@[simp] theorem setTx_errCmd (s : State) (m : Memory 8) (len : Half) : (s.setTx m len).errCmd = s.errCmd := rfl
@[simp] theorem setTx_errCount (s : State) (m : Memory 8) (len : Half) : (s.setTx m len).errCount = s.errCount := rfl
@[simp] theorem setTx_encSid (s : State) (m : Memory 8) (len : Half) : (s.setTx m len).encSid = s.encSid := rfl
@[simp] theorem setTx_encFc (s : State) (m : Memory 8) (len : Half) : (s.setTx m len).encFc = s.encFc := rfl
@[simp] theorem setTx_encAddr (s : State) (m : Memory 8) (len : Half) : (s.setTx m len).encAddr = s.encAddr := rfl
@[simp] theorem setTx_val (s : State) (m : Memory 8) (len : Half) : (s.setTx m len).val = s.val := rfl
@[simp] theorem setTx_valLen (s : State) (m : Memory 8) (len : Half) : (s.setTx m len).valLen = s.valLen := rfl
@[simp] theorem setTx_txb (s : State) (m : Memory 8) (len : Half) : (s.setTx m len).txb = m := rfl
@[simp] theorem setTx_txLen (s : State) (m : Memory 8) (len : Half) : (s.setTx m len).txLen = len := rfl
@[simp] theorem setTx_rxb (s : State) (m : Memory 8) (len : Half) : (s.setTx m len).rxb = s.rxb := rfl
@[simp] theorem setTx_rxLen (s : State) (m : Memory 8) (len : Half) : (s.setTx m len).rxLen = s.rxLen := rfl
@[simp] theorem setTx_decStatus (s : State) (m : Memory 8) (len : Half) : (s.setTx m len).decStatus = s.decStatus := rfl
@[simp] theorem setTx_decLen (s : State) (m : Memory 8) (len : Half) : (s.setTx m len).decLen = s.decLen := rfl
@[simp] theorem setTx_decSid (s : State) (m : Memory 8) (len : Half) : (s.setTx m len).decSid = s.decSid := rfl
@[simp] theorem setTx_decFc (s : State) (m : Memory 8) (len : Half) : (s.setTx m len).decFc = s.decFc := rfl
@[simp] theorem setTx_decAddr (s : State) (m : Memory 8) (len : Half) : (s.setTx m len).decAddr = s.decAddr := rfl
@[simp] theorem setTx_decCount (s : State) (m : Memory 8) (len : Half) : (s.setTx m len).decCount = s.decCount := rfl
@[simp] theorem setTx_decNval (s : State) (m : Memory 8) (len : Half) : (s.setTx m len).decNval = s.decNval := rfl
@[simp] theorem setTx_decVal (s : State) (m : Memory 8) (len : Half) : (s.setTx m len).decVal = s.decVal := rfl
@[simp] theorem setTx_decCrcCalc (s : State) (m : Memory 8) (len : Half) : (s.setTx m len).decCrcCalc = s.decCrcCalc := rfl
@[simp] theorem setTx_decCrcRcv (s : State) (m : Memory 8) (len : Half) : (s.setTx m len).decCrcRcv = s.decCrcRcv := rfl
@[simp] theorem setTx_paramMaxRegs (s : State) (m : Memory 8) (len : Half) : (s.setTx m len).paramMaxRegs = s.paramMaxRegs := rfl
@[simp] theorem setTx_port (s : State) (m : Memory 8) (len : Half) : (s.setTx m len).port = s.port := rfl
@[simp] theorem setTx_answers (s : State) (m : Memory 8) (len : Half) : (s.setTx m len).answers = s.answers := rfl
@[simp] theorem setTx_draws (s : State) (m : Memory 8) (len : Half) : (s.setTx m len).draws = s.draws := rfl
@[simp] theorem setTx_maxRegs (s : State) (m : Memory 8) (len : Half) : (s.setTx m len).maxRegs = s.maxRegs := rfl
@[simp] theorem setTx_frameMax (s : State) (m : Memory 8) (len : Half) : (s.setTx m len).frameMax = s.frameMax := rfl

/-! ### setRx -/

@[simp] theorem setRx_crcAcc (s : State) (m : Memory 8) (len : Half) : (s.setRx m len).crcAcc = s.crcAcc := rfl
@[simp] theorem setRx_ctrl (s : State) (m : Memory 8) (len : Half) : (s.setRx m len).ctrl = s.ctrl := rfl
@[simp] theorem setRx_errCause (s : State) (m : Memory 8) (len : Half) : (s.setRx m len).errCause = s.errCause := rfl
@[simp] theorem setRx_errCmd (s : State) (m : Memory 8) (len : Half) : (s.setRx m len).errCmd = s.errCmd := rfl
@[simp] theorem setRx_errCount (s : State) (m : Memory 8) (len : Half) : (s.setRx m len).errCount = s.errCount := rfl
@[simp] theorem setRx_encSid (s : State) (m : Memory 8) (len : Half) : (s.setRx m len).encSid = s.encSid := rfl
@[simp] theorem setRx_encFc (s : State) (m : Memory 8) (len : Half) : (s.setRx m len).encFc = s.encFc := rfl
@[simp] theorem setRx_encAddr (s : State) (m : Memory 8) (len : Half) : (s.setRx m len).encAddr = s.encAddr := rfl
@[simp] theorem setRx_val (s : State) (m : Memory 8) (len : Half) : (s.setRx m len).val = s.val := rfl
@[simp] theorem setRx_valLen (s : State) (m : Memory 8) (len : Half) : (s.setRx m len).valLen = s.valLen := rfl
@[simp] theorem setRx_txb (s : State) (m : Memory 8) (len : Half) : (s.setRx m len).txb = s.txb := rfl
@[simp] theorem setRx_txLen (s : State) (m : Memory 8) (len : Half) : (s.setRx m len).txLen = s.txLen := rfl
@[simp] theorem setRx_rxb (s : State) (m : Memory 8) (len : Half) : (s.setRx m len).rxb = m := rfl
@[simp] theorem setRx_rxLen (s : State) (m : Memory 8) (len : Half) : (s.setRx m len).rxLen = len := rfl
@[simp] theorem setRx_decStatus (s : State) (m : Memory 8) (len : Half) : (s.setRx m len).decStatus = s.decStatus := rfl
@[simp] theorem setRx_decLen (s : State) (m : Memory 8) (len : Half) : (s.setRx m len).decLen = s.decLen := rfl
@[simp] theorem setRx_decSid (s : State) (m : Memory 8) (len : Half) : (s.setRx m len).decSid = s.decSid := rfl
@[simp] theorem setRx_decFc (s : State) (m : Memory 8) (len : Half) : (s.setRx m len).decFc = s.decFc := rfl
@[simp] theorem setRx_decAddr (s : State) (m : Memory 8) (len : Half) : (s.setRx m len).decAddr = s.decAddr := rfl
@[simp] theorem setRx_decCount (s : State) (m : Memory 8) (len : Half) : (s.setRx m len).decCount = s.decCount := rfl
@[simp] theorem setRx_decNval (s : State) (m : Memory 8) (len : Half) : (s.setRx m len).decNval = s.decNval := rfl
@[simp] theorem setRx_decVal (s : State) (m : Memory 8) (len : Half) : (s.setRx m len).decVal = s.decVal := rfl
@[simp] theorem setRx_decCrcCalc (s : State) (m : Memory 8) (len : Half) : (s.setRx m len).decCrcCalc = s.decCrcCalc := rfl
@[simp] theorem setRx_decCrcRcv (s : State) (m : Memory 8) (len : Half) : (s.setRx m len).decCrcRcv = s.decCrcRcv := rfl
@[simp] theorem setRx_paramMaxRegs (s : State) (m : Memory 8) (len : Half) : (s.setRx m len).paramMaxRegs = s.paramMaxRegs := rfl
@[simp] theorem setRx_port (s : State) (m : Memory 8) (len : Half) : (s.setRx m len).port = s.port := rfl
@[simp] theorem setRx_answers (s : State) (m : Memory 8) (len : Half) : (s.setRx m len).answers = s.answers := rfl
@[simp] theorem setRx_draws (s : State) (m : Memory 8) (len : Half) : (s.setRx m len).draws = s.draws := rfl
@[simp] theorem setRx_maxRegs (s : State) (m : Memory 8) (len : Half) : (s.setRx m len).maxRegs = s.maxRegs := rfl
@[simp] theorem setRx_frameMax (s : State) (m : Memory 8) (len : Half) : (s.setRx m len).frameMax = s.frameMax := rfl

/-! ### setDecode -/

@[simp] theorem setDecode_crcAcc (s : State) (r : DecodeResult) : (s.setDecode r).crcAcc = s.crcAcc := rfl
@[simp] theorem setDecode_ctrl (s : State) (r : DecodeResult) : (s.setDecode r).ctrl = s.ctrl := rfl
@[simp] theorem setDecode_errCause (s : State) (r : DecodeResult) : (s.setDecode r).errCause = s.errCause := rfl
@[simp] theorem setDecode_errCmd (s : State) (r : DecodeResult) : (s.setDecode r).errCmd = s.errCmd := rfl
@[simp] theorem setDecode_errCount (s : State) (r : DecodeResult) : (s.setDecode r).errCount = s.errCount := rfl
@[simp] theorem setDecode_encSid (s : State) (r : DecodeResult) : (s.setDecode r).encSid = s.encSid := rfl
@[simp] theorem setDecode_encFc (s : State) (r : DecodeResult) : (s.setDecode r).encFc = s.encFc := rfl
@[simp] theorem setDecode_encAddr (s : State) (r : DecodeResult) : (s.setDecode r).encAddr = s.encAddr := rfl
@[simp] theorem setDecode_val (s : State) (r : DecodeResult) : (s.setDecode r).val = s.val := rfl
@[simp] theorem setDecode_valLen (s : State) (r : DecodeResult) : (s.setDecode r).valLen = s.valLen := rfl
@[simp] theorem setDecode_txb (s : State) (r : DecodeResult) : (s.setDecode r).txb = s.txb := rfl
@[simp] theorem setDecode_txLen (s : State) (r : DecodeResult) : (s.setDecode r).txLen = s.txLen := rfl
@[simp] theorem setDecode_rxb (s : State) (r : DecodeResult) : (s.setDecode r).rxb = s.rxb := rfl
@[simp] theorem setDecode_rxLen (s : State) (r : DecodeResult) : (s.setDecode r).rxLen = s.rxLen := rfl
@[simp] theorem setDecode_decStatus (s : State) (r : DecodeResult) : (s.setDecode r).decStatus = statusCode r.status := rfl
@[simp] theorem setDecode_decLen (s : State) (r : DecodeResult) : (s.setDecode r).decLen = BitVec.ofNat 16 r.len := rfl
@[simp] theorem setDecode_decSid (s : State) (r : DecodeResult) : (s.setDecode r).decSid = r.sid := rfl
@[simp] theorem setDecode_decFc (s : State) (r : DecodeResult) : (s.setDecode r).decFc = r.fc := rfl
@[simp] theorem setDecode_decAddr (s : State) (r : DecodeResult) : (s.setDecode r).decAddr = r.addr := rfl
@[simp] theorem setDecode_decCount (s : State) (r : DecodeResult) : (s.setDecode r).decCount = r.count := rfl
@[simp] theorem setDecode_decNval (s : State) (r : DecodeResult) : (s.setDecode r).decNval = BitVec.ofNat 16 r.nval := rfl
@[simp] theorem setDecode_decVal (s : State) (r : DecodeResult) : (s.setDecode r).decVal = s.decVal.writeSeq 0 r.vals := rfl
@[simp] theorem setDecode_decCrcCalc (s : State) (r : DecodeResult) : (s.setDecode r).decCrcCalc = r.crcCalc := rfl
@[simp] theorem setDecode_decCrcRcv (s : State) (r : DecodeResult) : (s.setDecode r).decCrcRcv = r.crcRcv := rfl
@[simp] theorem setDecode_paramMaxRegs (s : State) (r : DecodeResult) : (s.setDecode r).paramMaxRegs = s.paramMaxRegs := rfl
@[simp] theorem setDecode_port (s : State) (r : DecodeResult) : (s.setDecode r).port = s.port := rfl
@[simp] theorem setDecode_answers (s : State) (r : DecodeResult) : (s.setDecode r).answers = s.answers := rfl
@[simp] theorem setDecode_draws (s : State) (r : DecodeResult) : (s.setDecode r).draws = s.draws := rfl
@[simp] theorem setDecode_maxRegs (s : State) (r : DecodeResult) : (s.setDecode r).maxRegs = s.maxRegs := rfl
@[simp] theorem setDecode_frameMax (s : State) (r : DecodeResult) : (s.setDecode r).frameMax = s.frameMax := rfl

/-! ### setPort -/

@[simp] theorem setPort_crcAcc (s : State) (items : List HostItem) : (s.setPort items).crcAcc = s.crcAcc := rfl
@[simp] theorem setPort_ctrl (s : State) (items : List HostItem) : (s.setPort items).ctrl = s.ctrl := rfl
@[simp] theorem setPort_errCause (s : State) (items : List HostItem) : (s.setPort items).errCause = s.errCause := rfl
@[simp] theorem setPort_errCmd (s : State) (items : List HostItem) : (s.setPort items).errCmd = s.errCmd := rfl
@[simp] theorem setPort_errCount (s : State) (items : List HostItem) : (s.setPort items).errCount = s.errCount := rfl
@[simp] theorem setPort_encSid (s : State) (items : List HostItem) : (s.setPort items).encSid = s.encSid := rfl
@[simp] theorem setPort_encFc (s : State) (items : List HostItem) : (s.setPort items).encFc = s.encFc := rfl
@[simp] theorem setPort_encAddr (s : State) (items : List HostItem) : (s.setPort items).encAddr = s.encAddr := rfl
@[simp] theorem setPort_val (s : State) (items : List HostItem) : (s.setPort items).val = s.val := rfl
@[simp] theorem setPort_valLen (s : State) (items : List HostItem) : (s.setPort items).valLen = s.valLen := rfl
@[simp] theorem setPort_txb (s : State) (items : List HostItem) : (s.setPort items).txb = s.txb := rfl
@[simp] theorem setPort_txLen (s : State) (items : List HostItem) : (s.setPort items).txLen = s.txLen := rfl
@[simp] theorem setPort_rxb (s : State) (items : List HostItem) : (s.setPort items).rxb = s.rxb := rfl
@[simp] theorem setPort_rxLen (s : State) (items : List HostItem) : (s.setPort items).rxLen = s.rxLen := rfl
@[simp] theorem setPort_decStatus (s : State) (items : List HostItem) : (s.setPort items).decStatus = s.decStatus := rfl
@[simp] theorem setPort_decLen (s : State) (items : List HostItem) : (s.setPort items).decLen = s.decLen := rfl
@[simp] theorem setPort_decSid (s : State) (items : List HostItem) : (s.setPort items).decSid = s.decSid := rfl
@[simp] theorem setPort_decFc (s : State) (items : List HostItem) : (s.setPort items).decFc = s.decFc := rfl
@[simp] theorem setPort_decAddr (s : State) (items : List HostItem) : (s.setPort items).decAddr = s.decAddr := rfl
@[simp] theorem setPort_decCount (s : State) (items : List HostItem) : (s.setPort items).decCount = s.decCount := rfl
@[simp] theorem setPort_decNval (s : State) (items : List HostItem) : (s.setPort items).decNval = s.decNval := rfl
@[simp] theorem setPort_decVal (s : State) (items : List HostItem) : (s.setPort items).decVal = s.decVal := rfl
@[simp] theorem setPort_decCrcCalc (s : State) (items : List HostItem) : (s.setPort items).decCrcCalc = s.decCrcCalc := rfl
@[simp] theorem setPort_decCrcRcv (s : State) (items : List HostItem) : (s.setPort items).decCrcRcv = s.decCrcRcv := rfl
@[simp] theorem setPort_paramMaxRegs (s : State) (items : List HostItem) : (s.setPort items).paramMaxRegs = s.paramMaxRegs := rfl
@[simp] theorem setPort_port (s : State) (items : List HostItem) : (s.setPort items).port = items := rfl
@[simp] theorem setPort_answers (s : State) (items : List HostItem) : (s.setPort items).answers = s.answers := rfl
@[simp] theorem setPort_draws (s : State) (items : List HostItem) : (s.setPort items).draws = s.draws := rfl
@[simp] theorem setPort_maxRegs (s : State) (items : List HostItem) : (s.setPort items).maxRegs = s.maxRegs := rfl
@[simp] theorem setPort_frameMax (s : State) (items : List HostItem) : (s.setPort items).frameMax = s.frameMax := rfl

/-! ### setAnswers -/

@[simp] theorem setAnswers_crcAcc (s : State) (vs : List Word) : (s.setAnswers vs).crcAcc = s.crcAcc := rfl
@[simp] theorem setAnswers_ctrl (s : State) (vs : List Word) : (s.setAnswers vs).ctrl = s.ctrl := rfl
@[simp] theorem setAnswers_errCause (s : State) (vs : List Word) : (s.setAnswers vs).errCause = s.errCause := rfl
@[simp] theorem setAnswers_errCmd (s : State) (vs : List Word) : (s.setAnswers vs).errCmd = s.errCmd := rfl
@[simp] theorem setAnswers_errCount (s : State) (vs : List Word) : (s.setAnswers vs).errCount = s.errCount := rfl
@[simp] theorem setAnswers_encSid (s : State) (vs : List Word) : (s.setAnswers vs).encSid = s.encSid := rfl
@[simp] theorem setAnswers_encFc (s : State) (vs : List Word) : (s.setAnswers vs).encFc = s.encFc := rfl
@[simp] theorem setAnswers_encAddr (s : State) (vs : List Word) : (s.setAnswers vs).encAddr = s.encAddr := rfl
@[simp] theorem setAnswers_val (s : State) (vs : List Word) : (s.setAnswers vs).val = s.val := rfl
@[simp] theorem setAnswers_valLen (s : State) (vs : List Word) : (s.setAnswers vs).valLen = s.valLen := rfl
@[simp] theorem setAnswers_txb (s : State) (vs : List Word) : (s.setAnswers vs).txb = s.txb := rfl
@[simp] theorem setAnswers_txLen (s : State) (vs : List Word) : (s.setAnswers vs).txLen = s.txLen := rfl
@[simp] theorem setAnswers_rxb (s : State) (vs : List Word) : (s.setAnswers vs).rxb = s.rxb := rfl
@[simp] theorem setAnswers_rxLen (s : State) (vs : List Word) : (s.setAnswers vs).rxLen = s.rxLen := rfl
@[simp] theorem setAnswers_decStatus (s : State) (vs : List Word) : (s.setAnswers vs).decStatus = s.decStatus := rfl
@[simp] theorem setAnswers_decLen (s : State) (vs : List Word) : (s.setAnswers vs).decLen = s.decLen := rfl
@[simp] theorem setAnswers_decSid (s : State) (vs : List Word) : (s.setAnswers vs).decSid = s.decSid := rfl
@[simp] theorem setAnswers_decFc (s : State) (vs : List Word) : (s.setAnswers vs).decFc = s.decFc := rfl
@[simp] theorem setAnswers_decAddr (s : State) (vs : List Word) : (s.setAnswers vs).decAddr = s.decAddr := rfl
@[simp] theorem setAnswers_decCount (s : State) (vs : List Word) : (s.setAnswers vs).decCount = s.decCount := rfl
@[simp] theorem setAnswers_decNval (s : State) (vs : List Word) : (s.setAnswers vs).decNval = s.decNval := rfl
@[simp] theorem setAnswers_decVal (s : State) (vs : List Word) : (s.setAnswers vs).decVal = s.decVal := rfl
@[simp] theorem setAnswers_decCrcCalc (s : State) (vs : List Word) : (s.setAnswers vs).decCrcCalc = s.decCrcCalc := rfl
@[simp] theorem setAnswers_decCrcRcv (s : State) (vs : List Word) : (s.setAnswers vs).decCrcRcv = s.decCrcRcv := rfl
@[simp] theorem setAnswers_paramMaxRegs (s : State) (vs : List Word) : (s.setAnswers vs).paramMaxRegs = s.paramMaxRegs := rfl
@[simp] theorem setAnswers_port (s : State) (vs : List Word) : (s.setAnswers vs).port = s.port := rfl
@[simp] theorem setAnswers_answers (s : State) (vs : List Word) : (s.setAnswers vs).answers = vs := rfl
@[simp] theorem setAnswers_draws (s : State) (vs : List Word) : (s.setAnswers vs).draws = s.draws := rfl
@[simp] theorem setAnswers_maxRegs (s : State) (vs : List Word) : (s.setAnswers vs).maxRegs = s.maxRegs := rfl
@[simp] theorem setAnswers_frameMax (s : State) (vs : List Word) : (s.setAnswers vs).frameMax = s.frameMax := rfl

/-! ### setDraws -/

@[simp] theorem setDraws_crcAcc (s : State) (n : Nat) : (s.setDraws n).crcAcc = s.crcAcc := rfl
@[simp] theorem setDraws_ctrl (s : State) (n : Nat) : (s.setDraws n).ctrl = s.ctrl := rfl
@[simp] theorem setDraws_errCause (s : State) (n : Nat) : (s.setDraws n).errCause = s.errCause := rfl
@[simp] theorem setDraws_errCmd (s : State) (n : Nat) : (s.setDraws n).errCmd = s.errCmd := rfl
@[simp] theorem setDraws_errCount (s : State) (n : Nat) : (s.setDraws n).errCount = s.errCount := rfl
@[simp] theorem setDraws_encSid (s : State) (n : Nat) : (s.setDraws n).encSid = s.encSid := rfl
@[simp] theorem setDraws_encFc (s : State) (n : Nat) : (s.setDraws n).encFc = s.encFc := rfl
@[simp] theorem setDraws_encAddr (s : State) (n : Nat) : (s.setDraws n).encAddr = s.encAddr := rfl
@[simp] theorem setDraws_val (s : State) (n : Nat) : (s.setDraws n).val = s.val := rfl
@[simp] theorem setDraws_valLen (s : State) (n : Nat) : (s.setDraws n).valLen = s.valLen := rfl
@[simp] theorem setDraws_txb (s : State) (n : Nat) : (s.setDraws n).txb = s.txb := rfl
@[simp] theorem setDraws_txLen (s : State) (n : Nat) : (s.setDraws n).txLen = s.txLen := rfl
@[simp] theorem setDraws_rxb (s : State) (n : Nat) : (s.setDraws n).rxb = s.rxb := rfl
@[simp] theorem setDraws_rxLen (s : State) (n : Nat) : (s.setDraws n).rxLen = s.rxLen := rfl
@[simp] theorem setDraws_decStatus (s : State) (n : Nat) : (s.setDraws n).decStatus = s.decStatus := rfl
@[simp] theorem setDraws_decLen (s : State) (n : Nat) : (s.setDraws n).decLen = s.decLen := rfl
@[simp] theorem setDraws_decSid (s : State) (n : Nat) : (s.setDraws n).decSid = s.decSid := rfl
@[simp] theorem setDraws_decFc (s : State) (n : Nat) : (s.setDraws n).decFc = s.decFc := rfl
@[simp] theorem setDraws_decAddr (s : State) (n : Nat) : (s.setDraws n).decAddr = s.decAddr := rfl
@[simp] theorem setDraws_decCount (s : State) (n : Nat) : (s.setDraws n).decCount = s.decCount := rfl
@[simp] theorem setDraws_decNval (s : State) (n : Nat) : (s.setDraws n).decNval = s.decNval := rfl
@[simp] theorem setDraws_decVal (s : State) (n : Nat) : (s.setDraws n).decVal = s.decVal := rfl
@[simp] theorem setDraws_decCrcCalc (s : State) (n : Nat) : (s.setDraws n).decCrcCalc = s.decCrcCalc := rfl
@[simp] theorem setDraws_decCrcRcv (s : State) (n : Nat) : (s.setDraws n).decCrcRcv = s.decCrcRcv := rfl
@[simp] theorem setDraws_paramMaxRegs (s : State) (n : Nat) : (s.setDraws n).paramMaxRegs = s.paramMaxRegs := rfl
@[simp] theorem setDraws_port (s : State) (n : Nat) : (s.setDraws n).port = s.port := rfl
@[simp] theorem setDraws_answers (s : State) (n : Nat) : (s.setDraws n).answers = s.answers := rfl
@[simp] theorem setDraws_draws (s : State) (n : Nat) : (s.setDraws n).draws = n := rfl
@[simp] theorem setDraws_maxRegs (s : State) (n : Nat) : (s.setDraws n).maxRegs = s.maxRegs := rfl
@[simp] theorem setDraws_frameMax (s : State) (n : Nat) : (s.setDraws n).frameMax = s.frameMax := rfl

/-! ### Reset: the capacity and the model's own fields are kept -/

@[simp] theorem applyReset_paramMaxRegs (s : State) : (applyReset s).paramMaxRegs = s.paramMaxRegs := rfl
@[simp] theorem applyReset_maxRegs (s : State) : (applyReset s).maxRegs = s.maxRegs := rfl
@[simp] theorem applyReset_frameMax (s : State) : (applyReset s).frameMax = s.frameMax := rfl
@[simp] theorem applyReset_port (s : State) : (applyReset s).port = s.port := rfl
@[simp] theorem applyReset_answers (s : State) : (applyReset s).answers = s.answers := rfl
@[simp] theorem applyReset_draws (s : State) : (applyReset s).draws = s.draws := rfl

end Sys2Proof.Machine
end

