-- ==== Sys2Proof/Laws/Ops.lean ====
section
/-! SUPPORT. What the shared operations can do, said once: rejecting, reading a buffer for a command, answering a read. -/

namespace Sys2Proof.Machine

/-! ### Rejecting (60_exceptions.md R201) -/

/-- Rejecting is what R201 writes out: the three error registers and nothing else. -/
theorem reject_eq (cause : RejectCause) (w : Word) (s : State) :
    reject cause w s = Rejected (causeCode cause) w s := by
  have h : (if s.errCount = 0xFFFF#16 then s.errCount else s.errCount + 1#16) =
      if s.errCount = 0xFFFF#16 then 0xFFFF#16 else s.errCount + 1#16 := by
    split
    next h => exact h
    next => rfl
  unfold reject State.setErrors Rejected
  rw [h]

theorem causeCode_ne_zero (cause : RejectCause) : causeCode cause ≠ 0#8 := by cases cause <;> decide

theorem causeCode_le (cause : RejectCause) : (causeCode cause).toNat ≤ 4 := by cases cause <;> decide

/-- After a rejection an error is recorded. -/
theorem reject_errCause_ne_zero (cause : RejectCause) (w : Word) (s : State) : (reject cause w s).errCause ≠ 0#8 := by
  rw [reject_eq]
  unfold Rejected
  by_cases h : s.errCause = 0#8
  · simpa [h] using causeCode_ne_zero cause
  · simp [h]

/-- The count after a rejection, as a number. -/
theorem reject_errCount_toNat (cause : RejectCause) (w : Word) (s : State) :
    (reject cause w s).errCount.toNat = min (s.errCount.toNat + 1) 0xFFFF := by
  unfold reject
  by_cases h : s.errCount = 0xFFFF#16
  · simp [h]
  · have h2 : s.errCount.toNat ≠ 0xFFFF := fun hc => h (BitVec.eq_of_toNat_eq (by simpa using hc))
    have := s.errCount.isLt
    simp [h, BitVec.toNat_add]
    omega

/-! ### The inputs of ENCGO and DECGO -/

/-- VAL[0..VAL_LEN) of a state whose entries below VAL_LEN are written: no value is drawn. -/
theorem encoderValues_of_holds {s : State} {vs : List Half} (hl : vs.length = s.valLen.toNat) (h : s.val.Holds vs) :
    encoderValues s = (vs, s.draws) := by
  unfold encoderValues
  rw [← hl]
  exact Memory.readSeq_of_holds h s.draws

/-- RXB[0..RX_LEN) of a state whose entries below RX_LEN are written: no value is drawn. -/
theorem decoderBytes_of_holds {s : State} {r : List Byte} (hl : r.length = s.rxLen.toNat) (h : s.rxb.Holds r) :
    decoderBytes s = (r, s.draws) := by
  unfold decoderBytes
  rw [← hl]
  exact Memory.readSeq_of_holds h s.draws

theorem encoderValues_length (s : State) : (encoderValues s).1.length = s.valLen.toNat :=
  Memory.readSeq_length _ _ _ _

theorem decoderBytes_length (s : State) : (decoderBytes s).1.length = s.rxLen.toNat :=
  Memory.readSeq_length _ _ _ _

/-! ### Answering a read -/

theorem giveAnswer_eq (s : State) (v : Word) (d : Nat) :
    giveAnswer s v d = { s with answers := s.answers ++ [v], draws := d } := rfl

theorem Memory.read_draws_le {w : Nat} (m : Memory w) (i d : Nat) : d ≤ (m.read i d).2 := by
  unfold Memory.read
  split <;> simp

/-! ### Codes -/

theorem statusCode_eq_ok {st : DecodeStatus} : statusCode st = 1#8 ↔ st = .ok := by cases st <;> decide

theorem statusCode_le (st : DecodeStatus) : (statusCode st).toNat ≤ 4 := by cases st <;> decide

end Sys2Proof.Machine
end

