-- ==== Sys2Proof/Laws/Frames.lean ====
section
/-! SUPPORT. Facts about bytes, the CRC and the two frame functions that proofs about ENCGO and DECGO rest on. -/

namespace Sys2Proof.Machine

/-! ### Bytes of a 16-bit value -/

@[simp] theorem joinBytes_hi_lo (v : Half) : joinBytes (hiByte v) (loByte v) = v := by
  apply BitVec.eq_of_toNat_eq
  have := v.isLt
  simp only [joinBytes, hiByte, loByte, BitVec.toNat_append, BitVec.extractLsb'_toNat, Nat.shiftRight_zero]
  rw [Nat.shiftLeft_eq, Nat.shiftRight_eq_div_pow, ← Nat.shiftLeft_eq,
    ← Nat.shiftLeft_add_eq_or_of_lt (Nat.mod_lt _ (by decide)), Nat.shiftLeft_eq]
  omega

theorem joinBytes_toNat (hi lo : Byte) : (joinBytes hi lo).toNat = 256 * hi.toNat + lo.toNat := by
  have := lo.isLt
  simp only [joinBytes, BitVec.toNat_append]
  rw [← Nat.shiftLeft_add_eq_or_of_lt lo.isLt, Nat.shiftLeft_eq]
  omega

theorem hiByte_toNat (v : Half) : (hiByte v).toNat = v.toNat / 256 := by
  have := v.isLt
  simp only [hiByte, BitVec.extractLsb'_toNat, Nat.shiftRight_eq_div_pow]
  omega

theorem loByte_toNat (v : Half) : (loByte v).toNat = v.toNat % 256 := by
  simp [loByte, BitVec.extractLsb'_toNat]

theorem byteAt_toNat_lt (r : List Byte) (i : Nat) : (byteAt r i).toNat < 256 := (byteAt r i).isLt

theorem halfAt_toNat (r : List Byte) (i : Nat) : (halfAt r i).toNat = fieldValue r i := joinBytes_toNat _ _

theorem receivedCrc_toNat (r : List Byte) : (receivedCrc r).toNat = receivedValue r := by
  unfold receivedCrc receivedValue
  rw [joinBytes_toNat, Nat.add_comm]
  rfl

/-! ### The CRC -/

theorem crc16_append (a b : List Byte) : crc16 (a ++ b) = b.foldl crcStep (crc16 a) := List.foldl_append

@[simp] theorem crc16_nil : crc16 [] = 0xFFFF#16 := rfl

/-! ### Lengths -/

@[simp] theorem bigEndian_length (v : Half) : (bigEndian v).length = 2 := rfl

@[simp] theorem littleEndian_length (v : Half) : (littleEndian v).length = 2 := rfl

theorem flatMap_bigEndian_length (vals : List Half) : (vals.flatMap bigEndian).length = 2 * vals.length := by
  induction vals with
  | nil => rfl
  | cons v vs ih => simp [ih]; omega

theorem framePayload_length (sid fc : Byte) (addr : Half) (vals : List Half) :
    (framePayload sid fc addr vals).length = 6 + 2 * vals.length := by
  simp [framePayload]
  omega

theorem encodeFrame_length (sid fc : Byte) (addr : Half) (vals : List Half) :
    (encodeFrame sid fc addr vals).length = 8 + 2 * vals.length := by
  simp [encodeFrame, withCrc, framePayload_length]
  omega

/-! ### The decode function's result -/

theorem regionValues_length (r : List Byte) (k : Nat) : (regionValues r k).length = k := by simp [regionValues]

/-- A decode that is not OK returns no partial frame, one that is returns the buffer's fields: the two shapes of a result. -/
theorem decodeFrame_shape (r : List Byte) (lenient : Bool) :
    (∃ st c v, st ≠ .ok ∧ decodeFrame r lenient = decodeFail st r.length c v) ∨
    (8 ≤ r.length ∧ computedCrc r = receivedCrc r ∧ (r.length - 8) % 2 = 0 ∧
      (lenient = false → (r.length - 8) / 2 = (halfAt r 4).toNat) ∧
      decodeFrame r lenient =
        { status := .ok, len := r.length, sid := byteAt r 0, fc := byteAt r 1, addr := halfAt r 2,
          count := halfAt r 4, nval := (r.length - 8) / 2, vals := regionValues r ((r.length - 8) / 2),
          crcCalc := computedCrc r, crcRcv := receivedCrc r }) := by
  unfold decodeFrame
  dsimp only
  split
  next => exact .inl ⟨_, _, _, by decide, rfl⟩
  next hn =>
    split
    next => exact .inl ⟨_, _, _, by decide, rfl⟩
    next hc =>
      split
      next => exact .inl ⟨_, _, _, by decide, rfl⟩
      next hm =>
        split
        next => exact .inl ⟨_, _, _, by decide, rfl⟩
        next hk =>
          refine .inr ⟨by omega, not_not.1 hc, by omega, ?_, rfl⟩
          intro hl
          exact not_not.1 fun h => hk ⟨hl, h⟩

theorem decodeFrame_len (r : List Byte) (lenient : Bool) : (decodeFrame r lenient).len = r.length := by
  rcases decodeFrame_shape r lenient with ⟨st, c, v, -, h⟩ | ⟨-, -, -, -, h⟩
  · rw [h]; rfl
  · rw [h]

theorem decodeFrame_vals_length (r : List Byte) (lenient : Bool) :
    (decodeFrame r lenient).vals.length = (decodeFrame r lenient).nval := by
  rcases decodeFrame_shape r lenient with ⟨st, c, v, -, h⟩ | ⟨-, -, -, -, h⟩ <;> rw [h]
  · rfl
  · exact regionValues_length _ _

/-- The decoded values always fit DEC_VAL (42_decoder.md R155). -/
theorem decodeFrame_nval_le (r : List Byte) (lenient : Bool) : (decodeFrame r lenient).nval ≤ (r.length - 8) / 2 := by
  rcases decodeFrame_shape r lenient with ⟨st, c, v, -, h⟩ | ⟨-, -, -, -, h⟩ <;> rw [h]
  · exact Nat.zero_le _

end Sys2Proof.Machine
end

