-- ==== Sys2Proof/Laws/PerInstr.lean ====
section
/-! SUPPORT. Per command: the word of a well-formed command is legal, that is, it matches its row of the opcode map
(30_encoding.md R67). -/

namespace Sys2Proof.Laws.EncodesLegalWord

/-- A well-formed command's word has the row's fixed bits, and its OP field is the row's opcode. -/
def Statement (i : Instr) : Prop :=
  i.wellFormed = true → encode i &&& i.opcode.mask = i.opcode.matchWord ∧ opField (encode i) = i.opcode.byte

theorem fixed_bits {fixed mask : Word} {n : Nat} (v : BitVec n) (hf : fixed &&& mask = fixed)
    (hm : ∀ k : Nat, k < n → mask.getLsbD k = false) :
    (fixed ||| v.setWidth 32) &&& mask = fixed := by
  refine BitVec.eq_of_getLsbD_eq fun k hk => ?_
  have h := congrArg (fun x => x.getLsbD k) hf
  simp only [BitVec.getLsbD_and, BitVec.getLsbD_or, BitVec.getLsbD_setWidth] at h ⊢
  by_cases hn : k < n
  · have hz := hm k hn
    rw [hz] at h ⊢
    simpa using h
  · rw [BitVec.getLsbD_of_ge v k (by omega)]
    simpa using h

theorem op_bits {fixed : Word} {n : Nat} (v : BitVec n) (hn : n ≤ 24) :
    opField (fixed ||| v.setWidth 32) = opField fixed := by
  refine BitVec.eq_of_getLsbD_eq fun k hk => ?_
  simp only [opField, BitVec.getLsbD_extractLsb', BitVec.getLsbD_or, BitVec.getLsbD_setWidth]
  rw [BitVec.getLsbD_of_ge v (24 + k) (by omega)]
  simp

/-- A row's match with an operand in bits its mask leaves free. -/
theorem legal_operand (op : Opcode) {n : Nat} (v : BitVec n) (hn : n ≤ 24)
    (hf : op.matchWord &&& op.mask = op.matchWord) (hm : ∀ k : Nat, k < n → op.mask.getLsbD k = false)
    (ho : opField op.matchWord = op.byte) :
    (op.matchWord ||| v.setWidth 32) &&& op.mask = op.matchWord ∧
      opField (op.matchWord ||| v.setWidth 32) = op.byte :=
  ⟨fixed_bits v hf hm, (op_bits v hn).trans ho⟩

theorem crcinit : Statement .crcinit := fun _ => by decide

theorem crcbyte (b : Byte) : Statement (.crcbyte b) := fun _ =>
  legal_operand .crcbyte b (by decide) (by decide) (by decide) (by decide)

theorem enchdr (sid fc : Byte) : Statement (.enchdr sid fc) := fun _ => by
  have h : encode (.enchdr sid fc) = 0x10000000#32 ||| (sid ++ fc : BitVec 16).setWidth 32 := by
    refine BitVec.eq_of_getLsbD_eq fun k hk => ?_
    simp only [encode, BitVec.getLsbD_or, BitVec.getLsbD_setWidth, BitVec.getLsbD_shiftLeft, BitVec.getLsbD_append]
    by_cases hk8 : k < 8
    · simp [hk8, hk]
    · have hfc := BitVec.getLsbD_of_ge fc k (by omega)
      simp [hk8, hk, hfc, show k - 8 < 32 by omega]
  rw [h]
  exact legal_operand .enchdr _ (by decide) (by decide) (by decide) (by decide)

theorem encaddr (a : Half) : Statement (.encaddr a) := fun _ =>
  legal_operand .encaddr a (by decide) (by decide) (by decide) (by decide)

theorem encclr : Statement .encclr := fun _ => by decide

theorem encval (v : Half) : Statement (.encval v) := fun _ =>
  legal_operand .encval v (by decide) (by decide) (by decide) (by decide)

theorem encgo : Statement .encgo := fun _ => by decide

theorem rxclr : Statement .rxclr := fun _ => by decide

theorem rxbyte (b : Byte) : Statement (.rxbyte b) := fun _ =>
  legal_operand .rxbyte b (by decide) (by decide) (by decide) (by decide)

theorem decgo : Statement .decgo := fun _ => by decide

theorem setctrl (half : Half) : Statement (.setctrl half) := fun h => by
  have h1 : half = (half.extractLsb' 0 1).setWidth 16 := by
    have h0 : half >>> 1 = 0#16 := by simpa [Instr.wellFormed] using h
    refine BitVec.eq_of_getLsbD_eq fun k hk => ?_
    by_cases hk0 : k = 0
    · subst hk0
      simp
    · have hb := congrArg (fun x => x.getLsbD (k - 1)) h0
      simp only [BitVec.getLsbD_ushiftRight, show 1 + (k - 1) = k by omega, BitVec.getLsbD_zero] at hb
      simp [hb, show ¬ k < 1 by omega]
  have h2 : encode (.setctrl half) = 0x30000000#32 ||| (half.extractLsb' 0 1).setWidth 32 := by
    rw [encode, h1]
    refine BitVec.eq_of_getLsbD_eq fun k hk => ?_
    by_cases hk0 : k = 0
    · subst hk0
      simp
    · simp [show ¬ k < 1 by omega]
  rw [h2]
  exact legal_operand .setctrl _ (by decide) (by decide) (by decide) (by decide)

theorem errclr : Statement .errclr := fun _ => by decide

end Sys2Proof.Laws.EncodesLegalWord
end

