-- ==== Sys2Proof/Laws/Step.lean ====
section
/-! SUPPORT. A step taken apart: the item it takes, the word it decodes, the meaning it runs. -/

namespace Sys2Proof.Machine

theorem step_of_port_nil {s : State} (h : s.port = []) : step s = .next s := by
  unfold step serve
  rw [h]

theorem step_of_port_cons {s : State} {item : HostItem} {rest : List HostItem} (h : s.port = item :: rest) :
    step s = runItem item { s with port := rest } := by
  unfold step serve
  rw [h]
  rfl

theorem runCommand_of_ok {w : Word} {i : Instr} (h : decode w = .ok i) (s : State) : runCommand w s = exec i s := by
  unfold runCommand
  rw [h]

theorem runCommand_of_error {w : Word} {c : RejectCause} (h : decode w = .error c) (s : State) :
    runCommand w s = .next (Rejected (causeCode c) w s) := by
  unfold runCommand
  rw [h, ← reject_eq]

/-- A step on a word with a defined opcode and no reserved bit set runs the row's command. -/
theorem step_of_legal {s : State} {w : Word} {rest : List HostItem} (op : Opcode) (hp : s.Presents w rest)
    (ho : opField w = op.byte) (hm : w &&& op.mask = op.matchWord) :
    step s = exec (op.instr w) { s with port := rest } := by
  rw [step_of_port_cons hp]
  exact runCommand_of_ok (decode_of_legal op ho hm) _

/-- A step on a word with a defined opcode and a reserved bit set rejects it with cause 2. -/
theorem step_of_reserved {s : State} {w : Word} {rest : List HostItem} (op : Opcode) (hp : s.Presents w rest)
    (ho : opField w = op.byte) (hm : w &&& op.mask ≠ op.matchWord) :
    step s = .next (Rejected 2#8 w { s with port := rest }) := by
  rw [step_of_port_cons hp]
  exact runCommand_of_error (decode_of_reserved op ho hm) _

/-- A step on a word with an undefined opcode rejects it with cause 1. -/
theorem step_of_undefined {s : State} {w : Word} {rest : List HostItem} (hp : s.Presents w rest)
    (ho : ∀ op : Opcode, op.byte ≠ opField w) : step s = .next (Rejected 1#8 w { s with port := rest }) := by
  rw [step_of_port_cons hp]
  exact runCommand_of_error (decode_of_undefined ho) _

/-! ### Runs -/

theorem run_succ_of_next {s t : State} (h : step s = .next t) (n : Nat) :
    Host.Core.run core (n + 1) s = Host.Core.run core n t := by
  have h' : core.step s = .next t := h
  have hrun := Host.Core.run.eq_2 core s n
  rw [h'] at hrun
  exact hrun

@[simp] theorem run_zero (s : State) : Host.Core.run core 0 s = .next s := rfl

theorem execSeq_cons_of_next {i : Instr} {s t : State} (h : exec i s = .next t) (is : List Instr) :
    execSeq (i :: is) s = execSeq is t := by
  rw [execSeq, h]

@[simp] theorem execSeq_nil (s : State) : execSeq [] s = .next s := rfl

theorem execSeq_append_of_next {is : List Instr} {s t : State} (h : execSeq is s = .next t) (js : List Instr) :
    execSeq (is ++ js) s = execSeq js t := by
  induction is generalizing s with
  | nil => cases h; rfl
  | cons i is ih =>
    rw [List.cons_append, execSeq]
    rw [execSeq] at h
    split at h
    next u hu => exact ih h
    next => cases h
    next => cases h

/-! ### The meanings as updates -/

@[simp] theorem exec_crcinit (s : State) : exec .crcinit s = .next (s.setCrcAcc 0xFFFF#16) := rfl

@[simp] theorem exec_crcbyte (b : Byte) (s : State) : exec (.crcbyte b) s = .next (s.setCrcAcc (crcStep s.crcAcc b)) := rfl

@[simp] theorem exec_enchdr (sid fc : Byte) (s : State) : exec (.enchdr sid fc) s = .next (s.setEncHeader sid fc) := rfl

@[simp] theorem exec_encaddr (a : Half) (s : State) : exec (.encaddr a) s = .next (s.setEncAddr a) := rfl

@[simp] theorem exec_encclr (s : State) : exec .encclr s = .next (s.setVal s.val 0#16) := rfl

theorem exec_encval_full {s : State} (v : Half) (h : s.valLen.toNat = s.maxRegs) :
    exec (.encval v) s = .next (reject .valFull (encode (.encval v)) s) := if_pos h

theorem exec_encval_room {s : State} (v : Half) (h : s.valLen.toNat ≠ s.maxRegs) :
    exec (.encval v) s = .next (s.setVal (s.val.write s.valLen.toNat v) (s.valLen + 1#16)) := if_neg h

theorem exec_encgo (s : State) :
    exec .encgo s =
      .next ((s.setTx (s.txb.writeSeq 0 (encodeFrame s.encSid s.encFc s.encAddr (encoderValues s).1))
        (BitVec.ofNat 16 (encodeFrame s.encSid s.encFc s.encAddr (encoderValues s).1).length)).setDraws
        (encoderValues s).2) := rfl

@[simp] theorem exec_rxclr (s : State) : exec .rxclr s = .next (s.setRx s.rxb 0#16) := rfl

theorem exec_rxbyte_full {s : State} (b : Byte) (h : s.rxLen.toNat = s.frameMax) :
    exec (.rxbyte b) s = .next (reject .rxFull (encode (.rxbyte b)) s) := if_pos h

theorem exec_rxbyte_room {s : State} (b : Byte) (h : s.rxLen.toNat ≠ s.frameMax) :
    exec (.rxbyte b) s = .next (s.setRx (s.rxb.write s.rxLen.toNat b) (s.rxLen + 1#16)) := if_neg h

theorem exec_decgo (s : State) :
    exec .decgo s =
      .next ((s.setDecode (decodeFrame (decoderBytes s).1 (lenientBit s.ctrl))).setDraws (decoderBytes s).2) := rfl

theorem exec_setctrl_legal {half : Half} (h : half >>> 1 = 0#16) (s : State) :
    exec (.setctrl half) s = .next (s.setCtrl (ctrlOfHalf half)) := if_pos h

theorem exec_setctrl_reserved {half : Half} (h : half >>> 1 ≠ 0#16) (s : State) :
    exec (.setctrl half) s = .next (reject .reservedNonzero (encode (.setctrl half)) s) := if_neg h

@[simp] theorem exec_errclr (s : State) : exec .errclr s = .next (s.setErrors 0#8 0#32 0#16) := rfl

/-- One line for what any command can do: run its own update, or be rejected for want of room or a reserved bit. -/
theorem exec_cases (i : Instr) (s : State) :
    (∃ c, exec i s = .next (reject c (encode i) s)) ∨
    (i = .crcinit ∧ exec i s = .next (s.setCrcAcc 0xFFFF#16)) ∨
    (∃ b, i = .crcbyte b ∧ exec i s = .next (s.setCrcAcc (crcStep s.crcAcc b))) ∨
    (∃ sid fc, i = .enchdr sid fc ∧ exec i s = .next (s.setEncHeader sid fc)) ∨
    (∃ a, i = .encaddr a ∧ exec i s = .next (s.setEncAddr a)) ∨
    (i = .encclr ∧ exec i s = .next (s.setVal s.val 0#16)) ∨
    (∃ v, i = .encval v ∧ s.valLen.toNat ≠ s.maxRegs ∧
      exec i s = .next (s.setVal (s.val.write s.valLen.toNat v) (s.valLen + 1#16))) ∨
    i = .encgo ∨
    (i = .rxclr ∧ exec i s = .next (s.setRx s.rxb 0#16)) ∨
    (∃ b, i = .rxbyte b ∧ s.rxLen.toNat ≠ s.frameMax ∧
      exec i s = .next (s.setRx (s.rxb.write s.rxLen.toNat b) (s.rxLen + 1#16))) ∨
    i = .decgo ∨
    (∃ half : Half, i = .setctrl half ∧ half >>> 1 = 0#16 ∧ exec i s = .next (s.setCtrl (ctrlOfHalf half))) ∨
    (i = .errclr ∧ exec i s = .next (s.setErrors 0#8 0#32 0#16)) := by
  cases i with
  | encval v =>
    by_cases h : s.valLen.toNat = s.maxRegs
    · exact .inl ⟨_, exec_encval_full v h⟩
    · simp [exec_encval_room v h, h]
  | rxbyte b =>
    by_cases h : s.rxLen.toNat = s.frameMax
    · exact .inl ⟨_, exec_rxbyte_full b h⟩
    · simp [exec_rxbyte_room b h, h]
  | setctrl half =>
    by_cases h : half >>> 1 = 0#16
    · simp [exec_setctrl_legal h, h]
    · exact .inl ⟨_, exec_setctrl_reserved h s⟩
  | _ => simp

end Sys2Proof.Machine
end

