-- ==== Sys2Proof/Tests/Slice0.lean ====
section
/-! SUPPORT. Tests and witnesses. Expected results are taken from the spec's tables and 95_test_vectors.md (named at each
test) or worked out by hand from a rule. The witnesses show, for every statement with hypotheses, data that meet them all
together. -/

namespace Sys2Proof.Tests

open Sys2Proof.Machine

/-! ### Helpers -/

/-- The next state, if that is the outcome. -/
def nextOf (o : Host.Outcome State Fault Refusal) : Option State :=
  match o with
  | .next t => some t
  | .fault _ => none
  | .refused _ => none

/-- A buffer holding a sequence from entry 0. -/
def filled {w : Nat} (vs : List (BitVec w)) : Memory w := Memory.writeSeq [] 0 vs

/-- The reset state with the host presenting these items. -/
def withItems (items : List HostItem) : State := { State.reset with port := items }

/-- The reset state with the host presenting one word. -/
def withWord (w : Word) : State := withItems [.command w]

/-- The frame of V-ENC-1 and V-DEC-5. -/
def frame1 : List Byte := [0x01#8, 0x03#8, 0x00#8, 0x00#8, 0x00#8, 0x02#8, 0x00#8, 0x01#8, 0x00#8, 0x02#8, 0x9C#8, 0xF3#8]

/-- The frame of V-ENC-4 and V-DEC-15. -/
def frame2 : List Byte := [0xFF#8, 0xFF#8, 0xFF#8, 0xFF#8, 0x00#8, 0x01#8, 0xFF#8, 0xFF#8, 0x50#8, 0x6B#8]

/-- A full machine with MAX_REGS = 1: V-ENC-4 encoded, copied into RXB and decoded, one command rejected before. -/
def full : State :=
  { State.resetWith 1#16 with
    errCause := 3#8, errCmd := 0x1300CCCC#32, errCount := 1#16
    encSid := 0xFF#8, encFc := 0xFF#8, encAddr := 0xFFFF#16, val := [(0, 0xFFFF#16)], valLen := 1#16
    txb := filled frame2, txLen := 10#16, rxb := filled frame2, rxLen := 10#16
    decStatus := 1#8, decLen := 10#16, decSid := 0xFF#8, decFc := 0xFF#8, decAddr := 0xFFFF#16, decCount := 1#16
    decNval := 1#16, decVal := [(0, 0xFFFF#16)], decCrcCalc := 0x6B50#16, decCrcRcv := 0x6B50#16 }

/-- The reset state with a received buffer and a decoder mode. -/
def received (r : List Byte) (mode : Half) : State :=
  { State.reset with ctrl := mode, rxb := filled r, rxLen := BitVec.ofNat 16 r.length }

/-- Status, count, number of values, computed and received CRC of a decode. -/
def decoded (r : List Byte) (lenient : Bool) : DecodeStatus × Half × Nat × Half × Half :=
  let d := decodeFrame r lenient
  (d.status, d.count, d.nval, d.crcCalc, d.crcRcv)

/-! ### Well-formedness -/

theorem test_setctrl_operand_2_is_ill_formed : (Instr.setctrl 2#16).wellFormed = false := by decide

theorem test_setctrl_operand_8000_is_ill_formed : (Instr.setctrl 0x8000#16).wellFormed = false := by decide

theorem test_setctrl_operand_1_is_well_formed : (Instr.setctrl 1#16).wellFormed = true := by decide

/-! ### Decoding: the patterns of 30_encoding.md R67 written out bit by bit -/

theorem test_decode_crc_words :
    decode 0b00000001000000000000000000000000#32 = .ok .crcinit ∧
    decode 0b00000010000000000000000010110010#32 = .ok (.crcbyte 0b10110010#8) := ⟨rfl, rfl⟩

theorem test_decode_encoder_words :
    decode 0b00010000000000001000000100000110#32 = .ok (.enchdr 0b10000001#8 0b00000110#8) ∧
    decode 0b00010001000000001010000000000101#32 = .ok (.encaddr 0b1010000000000101#16) ∧
    decode 0b00010010000000000000000000000000#32 = .ok .encclr ∧
    decode 0b00010011000000001100000000000001#32 = .ok (.encval 0b1100000000000001#16) ∧
    decode 0b00010100000000000000000000000000#32 = .ok .encgo := ⟨rfl, rfl, rfl, rfl, rfl⟩

theorem test_decode_decoder_words :
    decode 0b00100000000000000000000000000000#32 = .ok .rxclr ∧
    decode 0b00100001000000000000000010011100#32 = .ok (.rxbyte 0b10011100#8) ∧
    decode 0b00100010000000000000000000000000#32 = .ok .decgo := ⟨rfl, rfl, rfl⟩

theorem test_decode_control_words :
    decode 0b00110000000000000000000000000000#32 = .ok (.setctrl 0#16) ∧
    decode 0b00110000000000000000000000000001#32 = .ok (.setctrl 1#16) ∧
    decode 0b00110001000000000000000000000000#32 = .ok .errclr := ⟨rfl, rfl, rfl⟩

/-- V-CTL-4, V-CTL-5 (undefined opcodes), V-CRC-11, V-ENC-12, V-DEC-22, V-CTL-2, V-CTL-3 (reserved bits). -/
theorem test_decode_rejects :
    decode 0x00000000#32 = .error .illegalOpcode ∧ decode 0xFF123456#32 = .error .illegalOpcode ∧
    decode 0x01000001#32 = .error .reservedNonzero ∧ decode 0x10010103#32 = .error .reservedNonzero ∧
    decode 0x22000100#32 = .error .reservedNonzero ∧ decode 0x30000002#32 = .error .reservedNonzero ∧
    decode 0x30010001#32 = .error .reservedNonzero := ⟨rfl, rfl, rfl, rfl, rfl, rfl, rfl⟩

theorem test_decodeTableWord :
    decodeTableWord 32 0x1100006B = some (.encaddr 0x006B#16) ∧ decodeTableWord 32 0 = none ∧
    decodeTableWord 40 0x01000000 = none := ⟨rfl, rfl, rfl⟩

/-! ### The CRC: V-CRC-2, V-CRC-3, V-CRC-4, V-CRC-6 -/

theorem test_crc_check_value :
    crc16 [0x31#8, 0x32#8, 0x33#8, 0x34#8, 0x35#8, 0x36#8, 0x37#8, 0x38#8, 0x39#8] = 0x4B37#16 := by decide +kernel

theorem test_crc_one_byte :
    crc16 [0x00#8] = 0x40BF#16 ∧ crc16 [0x01#8] = 0x807E#16 ∧ crc16 [0x7F#8] = 0xA0FE#16 ∧
    crc16 [0x80#8] = 0xE0BE#16 ∧ crc16 [0xFF#8] = 0x00FF#16 := by decide +kernel

theorem test_crc_rounds :
    crcRounds 1 0xFFFE#16 = 0x7FFF#16 ∧ crcRounds 2 0xFFFE#16 = 0x9FFE#16 ∧ crcRounds 7 0xFFFE#16 = 0x40FF#16 := by decide +kernel

/-- The residue property, V-CRC-9. -/
theorem test_crc_residue : crc16 frame1 = 0#16 := by decide +kernel

theorem test_step_crcinit :
    (nextOf (exec .crcinit { State.reset with crcAcc := 0x1234#16 })).map (·.crcAcc) = some 0xFFFF#16 := by decide

/-- V-CRC-10: right after reset, with no CRCINIT. -/
theorem test_step_crcbyte : (nextOf (step (withWord 0x02000031#32))).map (·.crcAcc) = some 0x947E#16 := by decide +kernel

/-! ### The encoder -/

theorem test_encode_frames :
    encodeFrame 1#8 3#8 0#16 [1#16, 2#16] = frame1 ∧
    encodeFrame 0x11#8 0x10#8 1#16 [0x000A#16, 0x0102#16] =
      [0x11#8, 0x10#8, 0x00#8, 0x01#8, 0x00#8, 0x02#8, 0x00#8, 0x0A#8, 0x01#8, 0x02#8, 0x24#8, 0xC4#8] ∧
    encodeFrame 0xFF#8 0xFF#8 0xFFFF#16 [0xFFFF#16] = frame2 := by decide +kernel

theorem test_step_enchdr :
    (nextOf (step (withWord 0x10001106#32))).map (fun t => (t.encSid, t.encFc)) = some (0x11#8, 0x06#8) := by decide

theorem test_step_encaddr : (nextOf (step (withWord 0x1100006B#32))).map (·.encAddr) = some 0x006B#16 := by decide

/-- ENCCLR keeps VAL's entries (41_encoder.md R125). -/
theorem test_step_encclr :
    (nextOf (exec .encclr full)).map (fun t => (t.valLen, t.val)) = some (0#16, [(0, 0xFFFF#16)]) := by decide

theorem test_step_encval :
    (nextOf (exec (.encval 0xABCD#16) { State.reset with val := [(0, 0x1234#16)], valLen := 1#16 })).map
      (fun t => (t.valLen, t.val)) = some (2#16, [(0, 0x1234#16), (1, 0xABCD#16)]) := by decide

/-- As V-ENC-9, at MAX_REGS = 1 and with no error recorded before. -/
theorem test_step_encval_full :
    (nextOf (exec (.encval 0xBEEF#16) { full with errCause := 0#8, errCmd := 0#32, errCount := 0#16 })).map
      (fun t => (t.errCause, t.errCmd, t.errCount, t.valLen)) = some (3#8, 0x1300BEEF#32, 1#16, 1#16) := by decide

/-- V-ENC-7: ENCGO right after reset. -/
theorem test_step_encgo_after_reset :
    (nextOf (exec .encgo State.reset)).map (fun t => (t.txLen, t.txb)) =
      some (8#16, [(0, 0#8), (1, 0#8), (2, 0#8), (3, 0#8), (4, 0#8), (5, 0#8), (6, 0x00#8), (7, 0x1B#8)]) := by decide +kernel

/-- The shorter frame leaves the earlier one's entries above TX_LEN, as in V-ENC-11. -/
theorem test_step_encgo_keeps_the_tail :
    (nextOf (exec .encgo { full with valLen := 0#16 })).map
      (fun t => (t.txLen, t.txb.lookup 5, t.txb.lookup 8, t.txb.lookup 9)) =
      some (8#16, some 0x00#8, some 0x50#8, some 0x6B#8) := by decide +kernel

/-! ### The decoder: V-DEC-1 to V-DEC-10 -/

theorem test_decode_short :
    decoded [] false = (.frameTooShort, 0#16, 0, 0#16, 0#16) ∧
    decoded [0x01#8, 0x03#8, 0x00#8, 0x00#8, 0x00#8, 0x00#8, 0x00#8] true = (.frameTooShort, 0#16, 0, 0#16, 0#16) := by decide +kernel

theorem test_decode_empty_region :
    decoded [0x01#8, 0x03#8, 0x00#8, 0x00#8, 0x00#8, 0x00#8, 0x45#8, 0xCA#8] false = (.ok, 0#16, 0, 0xCA45#16, 0xCA45#16) ∧
    decoded [0x01#8, 0x03#8, 0x00#8, 0x00#8, 0x00#8, 0x02#8, 0xC4#8, 0x0B#8] false =
      (.truncatedValues, 0#16, 0, 0x0BC4#16, 0x0BC4#16) ∧
    decoded [0x01#8, 0x03#8, 0x00#8, 0x00#8, 0x00#8, 0x02#8, 0xC4#8, 0x0B#8] true = (.ok, 2#16, 0, 0x0BC4#16, 0x0BC4#16) := by
  decide +kernel

theorem test_decode_good_frame :
    (decodeFrame frame1 false).vals = [1#16, 2#16] ∧ decoded frame1 false = (.ok, 2#16, 2, 0xF39C#16, 0xF39C#16) := by decide +kernel

theorem test_decode_bad_crc :
    decoded [0x01#8, 0x03#8, 0x00#8, 0x00#8, 0x00#8, 0x02#8, 0x00#8, 0x01#8, 0x00#8, 0x02#8, 0xF3#8, 0x9C#8] true =
      (.crcMismatch, 0#16, 0, 0xF39C#16, 0x9CF3#16) ∧
    decoded [0x01#8, 0x03#8, 0x00#8, 0x00#8, 0x00#8, 0x00#8, 0x55#8, 0x00#8, 0x00#8] false =
      (.crcMismatch, 0#16, 0, 0xCCCB#16, 0x0000#16) := by decide +kernel

theorem test_decode_odd_region :
    decoded [0x01#8, 0x03#8, 0x00#8, 0x00#8, 0x00#8, 0x00#8, 0x55#8, 0xCB#8, 0xCC#8] true =
      (.truncatedValues, 0#16, 0, 0xCCCB#16, 0xCCCB#16) := by decide +kernel

theorem test_decode_count_check :
    decoded [0x01#8, 0x03#8, 0x00#8, 0x00#8, 0x00#8, 0x05#8, 0x00#8, 0x01#8, 0x00#8, 0x02#8, 0x29#8, 0x33#8] false =
      (.truncatedValues, 0#16, 0, 0x3329#16, 0x3329#16) ∧
    decoded [0x01#8, 0x03#8, 0x00#8, 0x00#8, 0x00#8, 0x01#8, 0x00#8, 0x01#8, 0x00#8, 0x02#8, 0xD8#8, 0xF3#8] true =
      (.ok, 1#16, 2, 0xF3D8#16, 0xF3D8#16) := by decide +kernel

/-- RXCLR keeps RXB's entries (42_decoder.md R141). -/
theorem test_step_rxclr :
    (nextOf (exec .rxclr full)).map (fun t => (t.rxLen, t.rxb.lookup 9)) = some (0#16, some 0x6B#8) := by decide

theorem test_step_rxbyte :
    (nextOf (exec (.rxbyte 0xEE#8) (received [0x11#8] 0#16))).map (fun t => (t.rxLen, t.rxb)) =
      some (2#16, [(0, 0x11#8), (1, 0xEE#8)]) := by decide

/-- As V-DEC-18, at MAX_REGS = 1: the byte is not stored, the first record is kept, the count grows. -/
theorem test_step_rxbyte_full :
    (nextOf (exec (.rxbyte 0xEE#8) full)).map (fun t => (t.rxLen, t.rxb, t.errCause, t.errCmd, t.errCount)) =
      some (10#16, filled frame2, 3#8, 0x1300CCCC#32, 2#16) := by decide +kernel

/-- V-DEC-9 in lenient mode, through the registers. -/
theorem test_step_decgo_lenient :
    (nextOf (exec .decgo (received [0x01#8, 0x03#8, 0x00#8, 0x00#8, 0x00#8, 0x05#8, 0x00#8, 0x01#8, 0x00#8, 0x02#8, 0x29#8,
      0x33#8] 1#16))).map (fun t => (t.decStatus, t.decCount, t.decNval, t.decVal)) =
      some (1#8, 5#16, 2#16, [(0, 1#16), (1, 2#16)]) := by decide +kernel

/-- V-DEC-20 and V-DEC-21: a failing DECGO leaves DEC_VAL and the error registers. -/
theorem test_step_decgo_failure :
    (nextOf (exec .decgo { full with rxLen := 9#16 })).map
      (fun t => (t.decStatus, t.decNval, t.decVal, t.errCount)) =
      some (3#8, 0#16, [(0, 0xFFFF#16)], 1#16) := by decide +kernel

/-! ### Control and rejection: V-CTL-1, V-CTL-2, V-CTL-5 to V-CTL-8 -/

theorem test_step_setctrl : (nextOf (step (withWord 0x30000001#32))).map (·.ctrl) = some 1#16 := by decide

theorem test_step_setctrl_reserved :
    (nextOf (step { withWord 0x30000002#32 with ctrl := 1#16 })).map (fun t => (t.ctrl, t.errCause, t.errCmd)) =
      some (1#16, 2#8, 0x30000002#32) := by decide

theorem test_step_errclr :
    (nextOf (exec .errclr full)).map (fun t => (t.errCause, t.errCmd, t.errCount, t.decStatus)) =
      some (0#8, 0#32, 0#16, 1#8) := by decide

theorem test_step_errclr_rejected :
    (nextOf (step { full with port := [.command 0x31000001#32] })).map (fun t => (t.errCause, t.errCmd, t.errCount)) =
      some (3#8, 0x1300CCCC#32, 2#16) := by decide

theorem test_rejections_saturate :
    (nextOf (step { full with port := [.command 0#32], errCount := 0xFFFF#16 })).map (fun t => (t.errCount, t.errCause)) =
      some (0xFFFF#16, 3#8) := by decide

/-! ### The read port: V-RD-1, V-RD-2, V-ENC-11 -/

theorem test_read_param : (nextOf (step (withItems [.read 5#32]))).map (·.answers) = some [125#32] := by decide

theorem test_read_unmapped :
    readPort State.reset 6#32 = (0#32, 0) ∧ readPort State.reset 0x1007D#32 = (0#32, 0) ∧
    readPort State.reset 0xFFFFFFFF#32 = (0#32, 0) := by decide

theorem test_read_windows :
    readPort full 0x10000#32 = (0xFFFF#32, 0) ∧ readPort full 0x20000#32 = (0xFFFF#32, 0) ∧
    readPort full 0x30008#32 = (0x50#32, 0) ∧ readPort full 0x40009#32 = (0x6B#32, 0) ∧
    readPort full 0x10001#32 = (0#32, 0) ∧ readPort full 0x4000A#32 = (0#32, 0) := by decide

/-- V-RD-3: an unwritten entry is a draw, and the next one is another. -/
theorem test_read_unwritten :
    readPort State.reset 0x10000#32 = ((Config.freeDraw 16 0).setWidth 32, 1) := rfl

theorem test_reset_clears :
    (nextOf (step { full with port := [.reset, .read 5#32] })).map (fun t => (t.crcAcc, t.valLen, t.txb, t.port)) =
      some (0xFFFF#16, 0#16, [], [.read 5#32]) := by decide

/-! ### The assembler: R75's example, P5's first line -/

theorem test_assemble_encode :
    assemble 125 "ENCODE 1, 3, 0x0000, 0x0001, 0x0002 ; the source's call" =
      some [0x10000103#32, 0x11000000#32, 0x12000000#32, 0x13000001#32, 0x13000002#32, 0x14000000#32] := by decide +kernel

theorem test_assemble_refusals :
    assemble 125 "NOP" = none ∧ assemble 125 "CRCBYTE 256" = none ∧ assemble 125 "SETCTRL 2" = none ∧
    assemble 125 "ENCGO 1" = none ∧ assemble 1 "ENCODE 1, 3, 0, 1, 2" = none := by decide +kernel

theorem test_assemble_lines :
    assemble 2 "ENCCLR\nENCVAL 0b11 ; three\n\n.word 0x30000002\nLENIENT" =
      some [0x12000000#32, 0x13000003#32, 0x30000002#32, 0x30000001#32] := by decide +kernel

/-! ### Witnesses: encoding and stepping -/

/-- DecodeOfEncodeIsIdentity, StepRunsTheDecodedCommand's second half. -/
theorem witness_wellFormed :
    (Instr.setctrl 1#16).wellFormed = true ∧ (Instr.enchdr 0xFF#8 0xFF#8).wellFormed = true := by decide

/-- EncodeOfDecodeIsIdentity; StepRunsTheDecodedCommand's first half. -/
theorem witness_presented_command :
    decode 0x30000001#32 = .ok (.setctrl 1#16) ∧ (withWord 0x30000001#32).Presents 0x30000001#32 [] := ⟨rfl, rfl⟩

/-- StepAlwaysCompletes' first clause. -/
theorem witness_idle : State.reset.port = [] := rfl

/-! ### Witnesses: rejection -/

/-- IllegalOpcodeIsRejected: the undefined opcodes beside defined ones, and both ends of the range. -/
theorem witness_illegal_opcodes :
    (withWord 0x00FFFFFF#32).Presents 0x00FFFFFF#32 [] ∧
    [0x00FFFFFF#32, 0x03000000#32, 0x0F000000#32, 0x15000000#32, 0x1F000000#32, 0x23000000#32, 0x2F000000#32, 0x32000000#32,
      0xFF000000#32].all (fun w => decide (opcodeOf w ∉ definedOpcodes)) = true := ⟨rfl, by decide⟩

/-- ReservedBitIsRejected, RejectionPriority's second clause: the lowest and the highest reserved bit of each format. -/
theorem witness_reserved_bits :
    (withWord 0x01000001#32).Presents 0x01000001#32 [] ∧
    ReservedBitSet 0x01000001#32 ∧ ReservedBitSet 0x31800000#32 ∧ ReservedBitSet 0x02000100#32 ∧
    ReservedBitSet 0x21800000#32 ∧ ReservedBitSet 0x10010000#32 ∧ ReservedBitSet 0x13800000#32 ∧
    ReservedBitSet 0x30000002#32 ∧ ReservedBitSet 0x30800000#32 := by
  refine ⟨rfl, ?_, ?_, ?_, ?_, ?_, ?_, ?_, ?_⟩ <;> unfold ReservedBitSet <;> decide

/-- The words just below: no reserved bit set. -/
theorem witness_no_reserved_bit :
    ¬ ReservedBitSet 0x01000000#32 ∧ ¬ ReservedBitSet 0x020000FF#32 ∧ ¬ ReservedBitSet 0x1300FFFF#32 ∧
    ¬ ReservedBitSet 0x30000001#32 := by
  refine ⟨?_, ?_, ?_, ?_⟩ <;> unfold ReservedBitSet <;> decide

/-- RejectionPriority's capacity clauses: both buffers at their capacity, with legal words. -/
theorem witness_full_buffers :
    full.valLen.toNat = full.maxRegs ∧ full.rxLen.toNat = full.frameMax ∧
    opcodeOf 0x1300CCCC#32 = 0x13#8 ∧ opcodeOf 0x210000EE#32 = 0x21#8 ∧
    ¬ ReservedBitSet 0x1300CCCC#32 ∧ ¬ ReservedBitSet 0x210000EE#32 ∧
    { full with port := [.command 0x1300CCCC#32] }.Presents 0x1300CCCC#32 [] := by
  refine ⟨rfl, rfl, rfl, rfl, ?_, ?_, rfl⟩ <;> unfold ReservedBitSet <;> decide

/-- RejectionPriority's last clause: a legal word that no capacity stops, ERRCLR and another. -/
theorem witness_not_rejected :
    opcodeOf 0x31000000#32 = 0x31#8 ∧ opcodeOf 0x31000000#32 ∈ definedOpcodes ∧ ¬ ReservedBitSet 0x31000000#32 ∧
    opcodeOf 0x13000000#32 ∈ definedOpcodes ∧ ¬ ReservedBitSet 0x13000000#32 ∧
    (withWord 0x13000000#32).valLen.toNat ≠ (withWord 0x13000000#32).maxRegs := by
  refine ⟨rfl, by decide, ?_, by decide, ?_, by decide⟩ <;> unfold ReservedBitSet <;> decide

/-- RejectionsAccumulate: a record present, and none. ErrorRecordIsSticky: a record, and an item of each kind it is about. -/
theorem witness_error_records :
    full.errCause ≠ 0#8 ∧ State.reset.errCause = 0#8 ∧
    [(RejectCause.illegalOpcode, 0#32), (.rxFull, 0x21000000#32)] = (.illegalOpcode, 0#32) :: [(.rxFull, 0x21000000#32)] ∧
    { full with port := [.command 0x31000001#32] }.port = .command 0x31000001#32 :: [] ∧
    (HostItem.command 0x31000001#32 ≠ .reset ∧ HostItem.command 0x31000001#32 ≠ .command 0x31000000#32) ∧
    (HostItem.read 2#32 ≠ .reset ∧ HostItem.read 2#32 ≠ .command 0x31000000#32) := by
  refine ⟨by decide, rfl, rfl, rfl, ?_, ?_⟩ <;> decide

/-! ### Witnesses: the word of each command, with its reserved bits clear and with one set -/

theorem witness_format_n_words :
    [(0x01000000#32, 0x01#8), (0x12000000#32, 0x12#8), (0x14000000#32, 0x14#8), (0x20000000#32, 0x20#8),
      (0x22000000#32, 0x22#8), (0x31000000#32, 0x31#8)].all
      (fun p => decide (opcodeOf p.1 = p.2 ∧ p.1.extractLsb' 0 24 = 0#24 ∧ (withWord p.1).port = [.command p.1] ∧
        opcodeOf (p.1 ||| 1#32) = p.2 ∧ (p.1 ||| 1#32).extractLsb' 0 24 ≠ 0#24 ∧
        (withWord (p.1 ||| 1#32)).port = [.command (p.1 ||| 1#32)])) = true := by decide

theorem witness_format_b_words :
    [(0x020000FF#32, 0x02#8), (0x210000FF#32, 0x21#8)].all
      (fun p => decide (opcodeOf p.1 = p.2 ∧ p.1.extractLsb' 8 16 = 0#16 ∧ (withWord p.1).port = [.command p.1] ∧
        opcodeOf (p.1 ||| 0x100#32) = p.2 ∧ (p.1 ||| 0x100#32).extractLsb' 8 16 ≠ 0#16)) = true := by decide

theorem witness_format_hp_words :
    [(0x1000FFFF#32, 0x10#8), (0x1100FFFF#32, 0x11#8), (0x1300FFFF#32, 0x13#8)].all
      (fun p => decide (opcodeOf p.1 = p.2 ∧ p.1.extractLsb' 16 8 = 0#8 ∧ (withWord p.1).port = [.command p.1] ∧
        opcodeOf (p.1 ||| 0x10000#32) = p.2 ∧ (p.1 ||| 0x10000#32).extractLsb' 16 8 ≠ 0#8)) = true := by decide

/-- SetctrlCommand: both legal operands, the smallest and the largest other one, and the words. -/
theorem witness_setctrl :
    (0#16).toNat ≤ 1 ∧ (1#16).toNat ≤ 1 ∧ 1 < (2#16).toNat ∧ 1 < (0xFFFF#16).toNat ∧
    opcodeOf 0x30000001#32 = 0x30#8 ∧ (0x30000001#32).extractLsb' 1 23 = 0#23 ∧
    opcodeOf 0x30000002#32 = 0x30#8 ∧ (0x30000002#32).extractLsb' 1 23 ≠ 0#23 := by decide

/-- CrcAccumulatorIsIsolated and OnlyListedCommandsWrite: a command on each side of every condition. -/
theorem witness_opcodes :
    Instr.encgo.opcode ≠ .crcinit ∧ Instr.encgo.opcode ≠ .crcbyte ∧ (Instr.crcbyte 0#8).opcode = .crcbyte ∧
    Instr.encgo.opcode ∉ [Opcode.crcinit, .crcbyte] ∧ Instr.encgo.opcode ∉ [Opcode.encclr, .encval] ∧
    Instr.encgo.opcode ∉ [Opcode.rxclr, .rxbyte] ∧ Instr.crcinit.opcode ≠ .setctrl ∧ Instr.crcinit.opcode ≠ .enchdr ∧
    Instr.crcinit.opcode ≠ .encaddr ∧ Instr.crcinit.opcode ≠ .encval ∧ Instr.crcinit.opcode ≠ .encgo ∧
    Instr.crcinit.opcode ≠ .rxbyte ∧ Instr.crcinit.opcode ≠ .decgo := by decide

/-! ### Witnesses: buffers, frames and the invariant -/

theorem filled_holds {w : Nat} (vs : List (BitVec w)) (n : Nat) (h : vs.length = n)
    (ho : (List.range n).all (fun i => decide ((filled vs).lookup i = vs[i]?)) = true) : (filled vs).Holds vs := by
  intro i hi
  exact of_decide_eq_true (List.all_eq_true.1 ho i (List.mem_range.2 (h ▸ hi)))

theorem frame2_held : (filled frame2).Holds frame2 := filled_holds frame2 10 rfl (by decide)

theorem full_val_held : full.val.Holds [0xFFFF#16] := filled_holds [0xFFFF#16] 1 rfl (by decide)

theorem full_legal : full.LegalMaxRegs := by
  unfold State.LegalMaxRegs
  decide

/-- Every statement with the premise Inv: a machine at every capacity, and one at reset that takes another value and byte. -/
theorem witness_inv_full : full.Inv where
  legal := full_legal
  valLen_le := by decide
  rxLen_le := by decide
  decNval_le := by decide
  txLen_form := .inr ⟨1, by decide⟩
  ctrl_reserved := rfl
  errCmd_clear := by decide
  errCount_clear := by decide
  errCause_code := by decide
  decStatus_code := by decide
  decLen_le := by decide
  dec_failure := by decide
  dec_success := by decide
  val_wf := rfl
  decVal_wf := rfl
  txb_wf := by decide
  rxb_wf := by decide
  val_written := ⟨[0xFFFF#16], rfl, full_val_held⟩
  rxb_written := ⟨frame2, rfl, frame2_held⟩
  decVal_written := ⟨[0xFFFF#16], rfl, full_val_held⟩
  txb_frame := .inr ⟨frame2.take 8, rfl, by
    have h : frame2.take 8 ++ [(crc16 (frame2.take 8)).extractLsb' 0 8, (crc16 (frame2.take 8)).extractLsb' 8 8] = frame2 := by
      decide +kernel
    rw [h]
    exact frame2_held⟩

/-- EncvalCommand and RxbyteCommand with room: at the last free entry of MAX_REGS = 1, with the invariant. -/
theorem witness_room :
    { full with valLen := 0#16, rxLen := 9#16 }.valLen.toNat ≠ { full with valLen := 0#16, rxLen := 9#16 }.maxRegs ∧
    { full with valLen := 0#16, rxLen := 9#16 }.rxLen.toNat ≠ { full with valLen := 0#16, rxLen := 9#16 }.frameMax ∧
    { full with valLen := 0#16, rxLen := 9#16 }.Inv := by
  refine ⟨by decide, by decide, { witness_inv_full with valLen_le := ?_, rxLen_le := ?_, val_written := ?_, rxb_written := ?_ }⟩
  · decide
  · decide
  · exact ⟨[], rfl, fun i hi => absurd hi (Nat.not_lt_zero i)⟩
  · exact ⟨frame2.take 9, rfl, fun i hi => (frame2_held i (Nat.lt_trans hi (by decide))).trans
      (List.getElem?_take_of_lt hi).symm⟩

/-- EncgoCommand's second clause, PseudoEncodeBuildsTheFrame; EncvalCommand's last clause. -/
theorem witness_encgo :
    full.LegalMaxRegs ∧ [0xFFFF#16].length = full.valLen.toNat ∧ [0xFFFF#16].length ≤ full.maxRegs ∧
    full.val.Holds [0xFFFF#16] := ⟨full_legal, rfl, by decide, full_val_held⟩

/-- DecgoCommand's second clause and RxbyteCommand's last: RX_LEN = FRAME_MAX. StrictModeCountsAgree: strict mode. -/
theorem witness_decgo :
    frame2.length = full.rxLen.toNat ∧ frame2.length = full.frameMax ∧ full.rxLen.toNat ≤ full.frameMax ∧
    full.rxb.Holds frame2 ∧ full.ctrl.getLsbD 0 = false := ⟨rfl, rfl, by decide, frame2_held, rfl⟩

/-- EncodeFrameLayout, EncodeDecodeInverse: no value, and one. -/
theorem witness_values :
    ([] : List Half).length ≤ Config.maxMaxRegs ∧ [0xFFFF#16].length ≤ Config.maxMaxRegs ∧
    [0xFFFF#16][0]? = some 0xFFFF#16 ∧ [0xFFFF#16].length ≤ full.maxRegs := by decide

/-- DecodeSuccessFields, DecodeFailureFields and StrictDecodeIsInjective: both outcomes, failures on both sides of 8 bytes. -/
theorem witness_decode_outcomes :
    (decodeFrame frame1 false).status = .ok ∧ (decodeFrame frame1 true).status = .ok ∧
    (decodeFrame (frame1.take 8) true).status ≠ .ok ∧ 8 ≤ (frame1.take 8).length ∧
    (decodeFrame (frame1.take 7) true).status ≠ .ok ∧ (frame1.take 7).length < 8 := by decide +kernel

/-- SingleBitFlipIsDetected: the last payload byte, the first CRC byte, and the last bit of the last byte, in the buffer of
a machine. -/
theorem witness_flip :
    (decodeFrame frame2 false).status = .ok ∧ 9 < frame2.length ∧ 7 < 8 ∧ 7 + 2 < frame2.length ∧ frame2.length ≤ 8 + 2 ∧
    (received (flipBit frame2 9 7) 0#16).rxLen.toNat = frame2.length ∧
    (received (flipBit frame2 9 7) 0#16).rxb.Holds (flipBit frame2 9 7) :=
  ⟨by decide +kernel, by decide, by decide, by decide, by decide, by decide, filled_holds _ 10 rfl (by decide)⟩

/-! ### Witnesses: the read port, reset and the assembler -/

/-- RegistersReadAtTheirAddresses: the first and the last row. -/
theorem witness_register_map :
    (0x00#32, 0xFFFF#32) ∈ full.registerMap ∧ (0x29#32, 0x6B50#32) ∈ full.registerMap ∧
    { full with port := [.read 0x29#32] }.port = .read 0x29#32 :: [] := ⟨by decide, by decide, rfl⟩

/-- WindowsReadTheBuffers: the last entry of each window, and an unwritten one of each width. -/
theorem witness_windows :
    full.LegalMaxRegs ∧ 0 < full.maxRegs ∧ full.val.lookup 0 = some 0xFFFF#16 ∧ full.decVal.lookup 0 = some 0xFFFF#16 ∧
    9 < full.frameMax ∧ full.txb.lookup 9 = some 0x6B#8 ∧ full.rxb.lookup 9 = some 0x6B#8 ∧
    State.reset.UnwrittenAt 0x1007C#32 ∧ State.reset.UnwrittenAt 0x2007C#32 ∧ State.reset.UnwrittenAt 0x30101#32 ∧
    State.reset.UnwrittenAt 0x40101#32 :=
  ⟨full_legal, by decide, rfl, rfl, by decide, rfl, rfl, .inl ⟨124, by decide, rfl, rfl⟩, .inr (.inl ⟨124, by decide, rfl, rfl⟩),
    .inr (.inr (.inl ⟨257, by decide, rfl, rfl⟩)), .inr (.inr (.inr ⟨257, by decide, rfl, rfl⟩))⟩

/-- UnmappedAddressesReadZero: the addresses next to a register, to each window and at the top. -/
theorem witness_unmapped :
    [0x06#32, 0x2A#32, 0xFFFF#32, 0x1007D#32, 0x2007D#32, 0x30102#32, 0x40102#32, 0xFFFFFFFF#32].all (fun a =>
      (State.reset.registerMap.all fun p => decide (p.1 ≠ a))) = true ∧
    ¬ State.reset.InWindow 0x06#32 ∧ ¬ State.reset.InWindow 0xFFFF#32 ∧ ¬ State.reset.InWindow 0x1007D#32 ∧
    ¬ State.reset.InWindow 0x2007D#32 ∧ ¬ State.reset.InWindow 0x30102#32 ∧ ¬ State.reset.InWindow 0x40102#32 ∧
    ¬ State.reset.InWindow 0xFFFFFFFF#32 ∧ (withItems [.read 6#32]).port = .read 6#32 :: [] := by
  refine ⟨by decide, ?_, ?_, ?_, ?_, ?_, ?_, ?_, rfl⟩ <;> unfold State.InWindow <;> decide

/-- ReadsHaveNoSideEffects' second clause: two reads of a written entry. -/
theorem witness_two_reads :
    { full with port := [.read 0x10000#32, .read 0x10000#32] }.port = .read 0x10000#32 :: .read 0x10000#32 :: [] ∧
    ¬ State.UnwrittenAt { full with port := [.read 0x10000#32, .read 0x10000#32] } 0x10000#32 := by
  refine ⟨rfl, ?_⟩
  rintro (⟨i, hi, ha, h⟩ | ⟨i, -, ha, -⟩ | ⟨i, -, ha, -⟩ | ⟨i, -, ha, -⟩)
  · obtain rfl : i = 0 := by
      have hi' : i < 1 := hi
      omega
    exact absurd h (by decide)
  all_goals
    have ha' : 0x10000 = _ := ha
    omega

/-- ResetValues, WrittenEntriesStayWritten: the items, and an entry written before. ResetMeetsTheInvariant: both ends. -/
theorem witness_reset_items :
    { full with port := [.reset] }.port = .reset :: [] ∧ { full with port := [.command 0#32] }.port = .command 0#32 :: [] ∧
    HostItem.command 0#32 ≠ .reset ∧ (full.val.lookup 0).isSome = true ∧ (full.txb.lookup 9).isSome = true ∧
    0 ≠ full.valLen.toNat ∧ 0 ≠ full.rxLen.toNat ∧ 1 ≤ (1#16).toNat ∧ (32763#16).toNat ≤ 32763 := by
  refine ⟨rfl, rfl, ?_⟩
  decide

/-- AssemblerWords: an operand list of each length that a clause is about. -/
theorem witness_operands :
    [255] = [255] ∧ [255, 255] = [255, 255] ∧ ([] : List Nat).length ≠ 1 ∧ [255].length ≠ 2 := by decide

end Sys2Proof.Tests
end

section
/-! What reset and every step keep: the invariant of 10_state.md R38, and the written entries of R39. -/

namespace Sys2Proof.Machine

variable {s t : State}

/-! ### One item: what running it can do -/

/-- Running an item executes a command, rejects a word, answers a read or resets. -/
theorem runItem_cases (item : HostItem) (s : State) :
    (∃ i, runItem item s = exec i s) ∨
    (∃ c w, runItem item s = .next (reject c w s)) ∨
    (∃ a, runItem item s = .next (serveRead a s)) ∨
    (item = .reset ∧ runItem item s = .next (applyReset s)) := by
  cases item with
  | command w =>
    cases h : decode w with
    | ok i => exact .inl ⟨i, runCommand_of_ok h s⟩
    | error c => exact .inr (.inl ⟨c, w, by rw [reject_eq]; exact runCommand_of_error h s⟩)
  | read a => exact .inr (.inr (.inl ⟨a, rfl⟩))
  | reset => exact .inr (.inr (.inr ⟨rfl, rfl⟩))

/-! ### The results of the operations a step calls -/

/-- SETCTRL leaves the reserved bits of CTRL clear (43_control.md R170). -/
theorem ctrlOfHalf_reserved (half : Half) : ctrlOfHalf half >>> 1 = 0#16 := by
  apply BitVec.eq_of_toNat_eq
  simp only [ctrlOfHalf, BitVec.toNat_ushiftRight, BitVec.toNat_setWidth, BitVec.extractLsb'_toNat,
    Nat.shiftRight_eq_div_pow, BitVec.toNat_ofNat]
  omega

/-- A length register below its top value does not wrap when one entry is appended. -/
theorem toNat_add_one_of_lt {x : Half} {n : Nat} (hx : x.toNat < n) (hn : n ≤ 0xFFFF) :
    (x + 1#16).toNat = x.toNat + 1 := by
  rw [BitVec.toNat_add, BitVec.toNat_ofNat]
  omega

/-- The count of rejections never reads 0 after one. -/
theorem reject_errCount_ne_zero (cause : RejectCause) (w : Word) (s : State) : (reject cause w s).errCount ≠ 0#16 := by
  intro h
  have hn := reject_errCount_toNat cause w s
  rw [h, BitVec.toNat_ofNat] at hn
  omega

theorem reject_errCause_le (cause : RejectCause) (w : Word) (h : s.errCause.toNat ≤ 4) :
    (reject cause w s).errCause.toNat ≤ 4 := by
  unfold reject
  rw [setErrors_errCause]
  split
  · exact causeCode_le cause
  · exact h

/-- A failing decode returns no partial frame (42_decoder.md R154). -/
theorem decodeFrame_of_not_ok {r : List Byte} {lenient : Bool} (h : (decodeFrame r lenient).status ≠ .ok) :
    (decodeFrame r lenient).sid = 0#8 ∧ (decodeFrame r lenient).fc = 0#8 ∧ (decodeFrame r lenient).addr = 0#16 ∧
      (decodeFrame r lenient).count = 0#16 ∧ (decodeFrame r lenient).nval = 0 := by
  rcases decodeFrame_shape r lenient with ⟨st, c, v, -, hd⟩ | ⟨-, -, -, -, hd⟩
  · rw [hd]
    exact ⟨rfl, rfl, rfl, rfl, rfl⟩
  · rw [hd] at h
    exact absurd rfl h

/-- A frame that decodes is its 8 fixed bytes and its values, and its two CRCs agree (42_decoder.md R153). -/
theorem decodeFrame_of_ok {r : List Byte} {lenient : Bool} (h : (decodeFrame r lenient).status = .ok) :
    r.length = 8 + 2 * (decodeFrame r lenient).nval ∧
      (decodeFrame r lenient).crcCalc = (decodeFrame r lenient).crcRcv := by
  rcases decodeFrame_shape r lenient with ⟨st, c, v, hst, hd⟩ | ⟨hn, hcrc, heven, -, hd⟩
  · rw [hd] at h
    exact absurd h hst
  · rw [hd]
    exact ⟨by dsimp only; omega, hcrc⟩

/-- Strict mode accepts a frame only if its count field is the number of its values (42_decoder.md R151). -/
theorem decodeFrame_strict_count (r : List Byte) :
    (decodeFrame r false).count = BitVec.ofNat 16 (decodeFrame r false).nval := by
  rcases decodeFrame_shape r false with ⟨st, c, v, -, hd⟩ | ⟨-, -, -, hcount, hd⟩ <;> rw [hd]
  · rfl
  · dsimp only
    rw [hcount rfl, BitVec.ofNat_toNat, BitVec.setWidth_eq]

/-- DEC_NVAL holds the number of decoded values: a receive buffer has at most 65535 bytes, so nothing is cut off. -/
theorem decoderResult_nval_toNat (s : State) (lenient : Bool) :
    (BitVec.ofNat 16 (decodeFrame (decoderBytes s).1 lenient).nval).toNat =
      (decodeFrame (decoderBytes s).1 lenient).nval := by
  have hle := decodeFrame_nval_le (decoderBytes s).1 lenient
  rw [decoderBytes_length] at hle
  have hlt := s.rxLen.isLt
  rw [BitVec.toNat_ofNat]
  omega

/-! ### The invariant after each register update -/

namespace State.Inv

theorem maxRegs_le (h : s.Inv) : s.maxRegs ≤ 32763 := h.legal.2

theorem frameMax_le (h : s.Inv) : s.frameMax ≤ 65534 := by
  have := h.maxRegs_le
  unfold State.frameMax
  omega

/-- TX_LEN holds the length of the frame ENCGO builds (00_scope.md R7: FRAME_MAX fits 16 bits). -/
theorem encgo_txLen_toNat (h : s.Inv) (sid fc : Byte) (addr : Half) :
    (BitVec.ofNat 16 (encodeFrame sid fc addr (encoderValues s).1).length).toNat = 8 + 2 * s.valLen.toNat := by
  have hlen := h.valLen_le
  have hmax := h.maxRegs_le
  rw [encodeFrame_length, encoderValues_length, BitVec.toNat_ofNat]
  omega

/-! Fields the invariant does not speak of. -/

theorem setPort (h : s.Inv) (items : List HostItem) : (s.setPort items).Inv := { h with }

theorem setAnswers (h : s.Inv) (vs : List Word) : (s.setAnswers vs).Inv := { h with }

theorem setDraws (h : s.Inv) (n : Nat) : (s.setDraws n).Inv := { h with }

theorem setCrcAcc (h : s.Inv) (v : Half) : (s.setCrcAcc v).Inv := { h with }

theorem setEncHeader (h : s.Inv) (sid fc : Byte) : (s.setEncHeader sid fc).Inv := { h with }

theorem setEncAddr (h : s.Inv) (a : Half) : (s.setEncAddr a).Inv := { h with }

/-! Fields it does. -/

theorem setCtrl (h : s.Inv) {v : Half} (hv : v >>> 1 = 0#16) : (s.setCtrl v).Inv :=
  { h with ctrl_reserved := hv }

theorem clearErrors (h : s.Inv) : (s.setErrors 0#8 0#32 0#16).Inv :=
  { h with
    errCmd_clear := fun _ => rfl
    errCount_clear := iff_of_true rfl rfl
    errCause_code := Nat.zero_le 4 }

theorem after_reject (h : s.Inv) (cause : RejectCause) (w : Word) : (reject cause w s).Inv :=
  have hcause := reject_errCause_ne_zero cause w s
  { h with
    errCmd_clear := fun hz => absurd hz hcause
    errCount_clear := iff_of_false hcause (reject_errCount_ne_zero cause w s)
    errCause_code := reject_errCause_le cause w h.errCause_code }

theorem clearVal (h : s.Inv) : (s.setVal s.val 0#16).Inv :=
  { h with
    valLen_le := Nat.zero_le _
    val_written := ⟨[], rfl, Memory.holds_nil _⟩ }

/-- Appending a value to a VAL that is not full (41_encoder.md R126). -/
theorem appendVal (h : s.Inv) (hroom : s.valLen.toNat ≠ s.maxRegs) (v : Half) :
    (s.setVal (s.val.write s.valLen.toNat v) (s.valLen + 1#16)).Inv := by
  have hlt : s.valLen.toNat < s.maxRegs := Nat.lt_of_le_of_ne h.valLen_le hroom
  have hlen := toNat_add_one_of_lt hlt (Nat.le_trans h.maxRegs_le (by decide))
  obtain ⟨vs, hvs, hheld⟩ := h.val_written
  exact { h with
    valLen_le := hlen.trans_le hlt
    val_wf := Memory.write_wf v h.val_wf hlt
    val_written := ⟨vs ++ [v], by simp [hvs, hlen], hvs ▸ Memory.holds_write_append hheld v⟩ }

theorem clearRx (h : s.Inv) : (s.setRx s.rxb 0#16).Inv :=
  { h with
    rxLen_le := Nat.zero_le _
    rxb_written := ⟨[], rfl, Memory.holds_nil _⟩ }

/-- Appending a byte to an RXB that is not full (42_decoder.md R142). -/
theorem appendRx (h : s.Inv) (hroom : s.rxLen.toNat ≠ s.frameMax) (b : Byte) :
    (s.setRx (s.rxb.write s.rxLen.toNat b) (s.rxLen + 1#16)).Inv := by
  have hlt : s.rxLen.toNat < s.frameMax := Nat.lt_of_le_of_ne h.rxLen_le hroom
  have hlen := toNat_add_one_of_lt hlt (Nat.le_trans h.frameMax_le (by decide))
  obtain ⟨r, hr, hheld⟩ := h.rxb_written
  exact { h with
    rxLen_le := hlen.trans_le hlt
    rxb_wf := Memory.write_wf b h.rxb_wf hlt
    rxb_written := ⟨r ++ [b], by simp [hr, hlen], hr ▸ Memory.holds_write_append hheld b⟩ }

/-- The frame ENCGO stores fits TXB and ends in the CRC of the bytes before it (41_encoder.md R127, R129). -/
theorem buildTx (h : s.Inv) (sid fc : Byte) (addr : Half) :
    (s.setTx (s.txb.writeSeq 0 (encodeFrame sid fc addr (encoderValues s).1))
      (BitVec.ofNat 16 (encodeFrame sid fc addr (encoderValues s).1).length)).Inv := by
  have hlen := h.encgo_txLen_toNat sid fc addr
  have hfit : 0 + (encodeFrame sid fc addr (encoderValues s).1).length ≤ s.frameMax := by
    have := h.valLen_le
    rw [encodeFrame_length, encoderValues_length]
    unfold State.frameMax
    omega
  refine { h with
    txLen_form := .inr ⟨s.valLen.toNat, h.valLen_le, hlen⟩
    txb_wf := Memory.writeSeq_wf _ h.txb_wf hfit
    txb_frame := .inr ⟨framePayload sid fc addr (encoderValues s).1, ?_, Memory.writeSeq_holds _ _⟩ }
  rw [setTx_txLen, hlen, framePayload_length, encoderValues_length]
  omega

/-- What DECGO stores fits DEC_VAL, and its fields agree with its outcome (42_decoder.md R153 to R155). -/
theorem setDecode (h : s.Inv) (lenient : Bool) : (s.setDecode (decodeFrame (decoderBytes s).1 lenient)).Inv := by
  have hbytes : (decoderBytes s).1.length ≤ s.frameMax := (decoderBytes_length s).trans_le h.rxLen_le
  have hlen : (BitVec.ofNat 16 (decodeFrame (decoderBytes s).1 lenient).len).toNat = (decoderBytes s).1.length := by
    have := h.frameMax_le
    rw [decodeFrame_len, BitVec.toNat_ofNat]
    omega
  have hnval := decoderResult_nval_toNat s lenient
  have hcap : (decodeFrame (decoderBytes s).1 lenient).nval ≤ s.maxRegs := by
    have := decodeFrame_nval_le (decoderBytes s).1 lenient
    unfold State.frameMax at hbytes
    omega
  have hvals := decodeFrame_vals_length (decoderBytes s).1 lenient
  refine { h with
    decNval_le := hnval.trans_le hcap
    decStatus_code := statusCode_le _
    decLen_le := hlen.trans_le hbytes
    dec_failure := fun hst => ?_
    dec_success := fun hst => ?_
    decVal_wf := Memory.writeSeq_wf _ h.decVal_wf (by rw [hvals, Nat.zero_add]; exact hcap)
    decVal_written := ⟨_, hvals.trans hnval.symm, Memory.writeSeq_holds _ _⟩ }
  · obtain ⟨hsid, hfc, haddr, hcount, hzero⟩ := decodeFrame_of_not_ok fun hok => hst (statusCode_eq_ok.2 hok)
    exact ⟨hsid, hfc, haddr, hcount, congrArg (BitVec.ofNat 16) hzero⟩
  · obtain ⟨hform, hcrc⟩ := decodeFrame_of_ok (statusCode_eq_ok.1 hst)
    refine ⟨?_, hcrc⟩
    rw [setDecode_decLen, setDecode_decNval, hlen, hnval]
    exact hform

/-! ### The invariant after reset, a command and an item -/

/-- At reset every register is 0 but CRC_ACC, and no entry is written (70_reset_and_hazards.md R240, R241). -/
theorem of_resetWith {m : Half} (hlo : 1 ≤ m.toNat) (hhi : m.toNat ≤ 32763) : (State.resetWith m).Inv where
  legal := ⟨hlo, hhi⟩
  valLen_le := Nat.zero_le _
  rxLen_le := Nat.zero_le _
  decNval_le := Nat.zero_le _
  txLen_form := .inl rfl
  ctrl_reserved := BitVec.zero_ushiftRight
  errCmd_clear _ := rfl
  errCount_clear := iff_of_true rfl rfl
  errCause_code := Nat.zero_le _
  decStatus_code := Nat.zero_le _
  decLen_le := Nat.zero_le _
  dec_failure _ := ⟨rfl, rfl, rfl, rfl, rfl⟩
  dec_success h := absurd (show (0#8 : Byte) = 1#8 from h) (by decide)
  val_wf := rfl
  decVal_wf := rfl
  txb_wf := rfl
  rxb_wf := rfl
  val_written := ⟨[], rfl, Memory.holds_nil _⟩
  rxb_written := ⟨[], rfl, Memory.holds_nil _⟩
  decVal_written := ⟨[], rfl, Memory.holds_nil _⟩
  txb_frame := .inl rfl

theorem after_applyReset (h : s.Inv) : (applyReset s).Inv :=
  (((of_resetWith h.legal.1 h.legal.2).setPort _).setAnswers _).setDraws _

theorem after_serveRead (h : s.Inv) (a : Word) : (serveRead a s).Inv := (h.setAnswers _).setDraws _

/-- Every command keeps the invariant. -/
theorem after_exec (h : s.Inv) (i : Instr) : ∃ t, exec i s = .next t ∧ t.Inv := by
  obtain ⟨c, he⟩ | ⟨-, he⟩ | ⟨b, -, he⟩ | ⟨sid, fc, -, he⟩ | ⟨a, -, he⟩ | ⟨-, he⟩ | ⟨v, -, hroom, he⟩ | rfl |
    ⟨-, he⟩ | ⟨b, -, hroom, he⟩ | rfl | ⟨half, -, -, he⟩ | ⟨-, he⟩ := exec_cases i s
  · exact ⟨_, he, h.after_reject c _⟩
  · exact ⟨_, he, h.setCrcAcc _⟩
  · exact ⟨_, he, h.setCrcAcc _⟩
  · exact ⟨_, he, h.setEncHeader sid fc⟩
  · exact ⟨_, he, h.setEncAddr a⟩
  · exact ⟨_, he, h.clearVal⟩
  · exact ⟨_, he, h.appendVal hroom v⟩
  · exact ⟨_, exec_encgo s, (h.buildTx _ _ _).setDraws _⟩
  · exact ⟨_, he, h.clearRx⟩
  · exact ⟨_, he, h.appendRx hroom b⟩
  · exact ⟨_, exec_decgo s, (h.setDecode _).setDraws _⟩
  · exact ⟨_, he, h.setCtrl (ctrlOfHalf_reserved half)⟩
  · exact ⟨_, he, h.clearErrors⟩

theorem after_runItem (h : s.Inv) (item : HostItem) : ∃ t, runItem item s = .next t ∧ t.Inv := by
  obtain ⟨i, he⟩ | ⟨c, w, he⟩ | ⟨a, he⟩ | ⟨-, he⟩ := runItem_cases item s
  · rw [he]
    exact h.after_exec i
  · exact ⟨_, he, h.after_reject c w⟩
  · exact ⟨_, he, h.after_serveRead a⟩
  · exact ⟨_, he, h.after_applyReset⟩

end State.Inv

/-- Settles O45: an idle step changes nothing, and running any item keeps the invariant. -/
theorem stepKeepsTheInvariant : Obligations.StepKeepsTheInvariant := by
  intro s h
  cases hp : s.port with
  | nil => exact ⟨s, step_of_port_nil hp, h⟩
  | cons item rest =>
    rw [step_of_port_cons hp]
    exact (h.setPort rest).after_runItem item

/-- Settles O44: the reset state of a legal MAX_REGS, and the default 125 is one. -/
theorem resetMeetsTheInvariant : Obligations.ResetMeetsTheInvariant :=
  ⟨fun _ hlo hhi => .of_resetWith hlo hhi, .of_resetWith (by decide) (by decide)⟩

/-- Settles O32: DECGO stores the decode of RXB[0..RX_LEN), whose count in strict mode is its number of values. -/
theorem strictModeCountsAgree : Obligations.StrictModeCountsAgree := by
  intro s hstrict
  refine ⟨_, exec_decgo s, ?_⟩
  rw [show lenientBit s.ctrl = false from hstrict]
  exact decodeFrame_strict_count (decoderBytes s).1

/-! ### Written entries (10_state.md R39) -/

/-- `m'` is `m` after stores to entries of `P` only: what was written stays written, and the rest is as it was. -/
def Memory.StoredIn {w : Nat} (P : Nat → Prop) (m m' : Memory w) : Prop :=
  ∀ i, ((m.lookup i).isSome → (m'.lookup i).isSome) ∧ (¬ P i → m'.lookup i = m.lookup i)

namespace Memory.StoredIn

variable {w : Nat} {P : Nat → Prop}

theorem of_eq {m m' : Memory w} (h : m' = m) : Memory.StoredIn P m m' := by
  subst h
  exact fun _ => ⟨id, fun _ => rfl⟩

theorem write (m : Memory w) {j : Nat} (v : BitVec w) (hj : P j) : Memory.StoredIn P m (m.write j v) := by
  intro i
  by_cases hi : i = j
  · subst hi
    exact ⟨fun _ => by rw [Memory.lookup_write_same]; rfl, fun hn => absurd hj hn⟩
  · rw [Memory.lookup_write_ne m v hi]
    exact ⟨id, fun _ => rfl⟩

theorem writeSeq (m : Memory w) (vs : List (BitVec w)) (hvs : ∀ i, i < vs.length → P i) :
    Memory.StoredIn P m (m.writeSeq 0 vs) := by
  intro i
  by_cases hi : i < vs.length
  · exact ⟨fun _ => by simp [Memory.writeSeq_holds m vs i hi, hi], fun hn => absurd (hvs i hi) hn⟩
  · rw [Memory.lookup_writeSeq_outside m (by omega)]
    exact ⟨id, fun _ => rfl⟩

end Memory.StoredIn

/-- The entries a step from `s` to `t` stores to: VAL[VAL_LEN], RXB[RX_LEN], TXB below the new TX_LEN and DEC_VAL
below the new DEC_NVAL. The bound on TXB needs the invariant of `s`: a VAL_LEN above capacity can make TX_LEN wrap. -/
structure StoresOnly (s t : State) : Prop where
  val : Memory.StoredIn (fun i => i = s.valLen.toNat) s.val t.val
  rxb : Memory.StoredIn (fun i => i = s.rxLen.toNat) s.rxb t.rxb
  txb : Memory.StoredIn (fun i => s.Inv → i < t.txLen.toNat) s.txb t.txb
  decVal : Memory.StoredIn (fun i => i < t.decNval.toNat) s.decVal t.decVal

namespace StoresOnly

theorem of_buffers_eq (hval : t.val = s.val) (hrxb : t.rxb = s.rxb) (htxb : t.txb = s.txb)
    (hdec : t.decVal = s.decVal) : StoresOnly s t where
  val := .of_eq hval
  rxb := .of_eq hrxb
  txb := .of_eq htxb
  decVal := .of_eq hdec

/-- ENCVAL with room stores to VAL[VAL_LEN] (41_encoder.md R126). -/
theorem of_encval (s : State) (v len : Half) : StoresOnly s (s.setVal (s.val.write s.valLen.toNat v) len) :=
  { of_buffers_eq (t := s) rfl rfl rfl rfl with val := .write s.val v rfl }

/-- RXBYTE with room stores to RXB[RX_LEN] (42_decoder.md R142). -/
theorem of_rxbyte (s : State) (b : Byte) (len : Half) : StoresOnly s (s.setRx (s.rxb.write s.rxLen.toNat b) len) :=
  { of_buffers_eq (t := s) rfl rfl rfl rfl with rxb := .write s.rxb b rfl }

/-- ENCGO stores to TXB below its new TX_LEN (41_encoder.md R127). -/
theorem of_encgo (s : State) : ∃ t, exec .encgo s = .next t ∧ StoresOnly s t := by
  refine ⟨_, exec_encgo s, { of_buffers_eq (s := s) (t := s) rfl rfl rfl rfl with
    txb := .writeSeq s.txb _ fun i hi hinv => ?_ }⟩
  rw [encodeFrame_length, encoderValues_length] at hi
  rw [setDraws_txLen, setTx_txLen, hinv.encgo_txLen_toNat]
  exact hi

/-- DECGO stores to DEC_VAL below its new DEC_NVAL (42_decoder.md R155). -/
theorem of_decgo (s : State) : ∃ t, exec .decgo s = .next t ∧ StoresOnly s t := by
  refine ⟨_, exec_decgo s, { of_buffers_eq (s := s) (t := s) rfl rfl rfl rfl with
    decVal := .writeSeq s.decVal _ fun i hi => ?_ }⟩
  rw [decodeFrame_vals_length] at hi
  rw [setDraws_decNval, setDecode_decNval, decoderResult_nval_toNat]
  exact hi

/-- The commands that store, each to its own buffer; every other command, and a rejected one, leaves all four alone. -/
theorem of_exec (i : Instr) (s : State) : ∃ t, exec i s = .next t ∧ StoresOnly s t := by
  cases i with
  | encval v =>
    by_cases hfull : s.valLen.toNat = s.maxRegs
    · exact ⟨_, exec_encval_full v hfull, .of_buffers_eq rfl rfl rfl rfl⟩
    · exact ⟨_, exec_encval_room v hfull, .of_encval s v _⟩
  | rxbyte b =>
    by_cases hfull : s.rxLen.toNat = s.frameMax
    · exact ⟨_, exec_rxbyte_full b hfull, .of_buffers_eq rfl rfl rfl rfl⟩
    · exact ⟨_, exec_rxbyte_room b hfull, .of_rxbyte s b _⟩
  | encgo => exact of_encgo s
  | decgo => exact of_decgo s
  | setctrl half =>
    by_cases hlegal : half >>> 1 = 0#16
    · exact ⟨_, exec_setctrl_legal hlegal s, .of_buffers_eq rfl rfl rfl rfl⟩
    · exact ⟨_, exec_setctrl_reserved hlegal s, .of_buffers_eq rfl rfl rfl rfl⟩
  | _ => exact ⟨_, rfl, .of_buffers_eq rfl rfl rfl rfl⟩

theorem of_runItem {item : HostItem} (hitem : item ≠ .reset) (s : State) :
    ∃ t, runItem item s = .next t ∧ StoresOnly s t := by
  obtain ⟨i, he⟩ | ⟨c, w, he⟩ | ⟨a, he⟩ | ⟨hreset, -⟩ := runItem_cases item s
  · rw [he]
    exact of_exec i s
  · exact ⟨_, he, .of_buffers_eq rfl rfl rfl rfl⟩
  · exact ⟨_, he, .of_buffers_eq rfl rfl rfl rfl⟩
  · exact absurd hreset hitem

end StoresOnly

/-- Settles O47: taking the item touches no buffer, and running it stores only where the statement allows. -/
theorem writtenEntriesStayWritten : Obligations.WrittenEntriesStayWritten := by
  intro s item rest hp hitem
  obtain ⟨t, hstep, hval, hrxb, htxb, hdec⟩ := StoresOnly.of_runItem hitem (s.setPort rest)
  refine ⟨t, (step_of_port_cons hp).trans hstep, fun i => ⟨(hval i).1, (htxb i).1, (hrxb i).1, (hdec i).1,
    (hval i).2, (hrxb i).2, fun hi hinv => (htxb i).2 fun hlt => ?_, fun hi => (hdec i).2 (Nat.not_lt.2 hi)⟩⟩
  exact Nat.not_lt.2 hi (hlt (hinv.setPort rest))

end Sys2Proof.Machine
end

section
/-! The memory claims (20_memory.md): an item sees nothing issued after it (R48, R49), and what the read port
answers at a register, at a window entry and elsewhere (R41 to R45). -/

namespace Sys2Proof.Machine

variable {s t : State} {a : Word} {rest : List HostItem}

/-! ### The queue is read by nothing but the step that takes an item (20_memory.md R49) -/

/-- A command does the same, whatever the host has presented after it. -/
theorem exec_setPort {i : Instr} (h : exec i s = .next t) (items : List HostItem) :
    exec i (s.setPort items) = .next (t.setPort items) := by
  cases i with
  | encval v =>
    by_cases hfull : s.valLen.toNat = s.maxRegs
    · rw [exec_encval_full v hfull] at h
      cases h
      exact exec_encval_full (s := s.setPort items) v hfull
    · rw [exec_encval_room v hfull] at h
      cases h
      exact exec_encval_room (s := s.setPort items) v hfull
  | rxbyte b =>
    by_cases hfull : s.rxLen.toNat = s.frameMax
    · rw [exec_rxbyte_full b hfull] at h
      cases h
      exact exec_rxbyte_full (s := s.setPort items) b hfull
    · rw [exec_rxbyte_room b hfull] at h
      cases h
      exact exec_rxbyte_room (s := s.setPort items) b hfull
  | setctrl half =>
    by_cases hlegal : half >>> 1 = 0#16
    · rw [exec_setctrl_legal hlegal] at h
      cases h
      exact exec_setctrl_legal hlegal (s.setPort items)
    · rw [exec_setctrl_reserved hlegal] at h
      cases h
      exact exec_setctrl_reserved hlegal (s.setPort items)
  | _ =>
    cases h
    rfl

/-- An item does the same, whatever the host has presented after it. -/
theorem runItem_setPort {item : HostItem} (h : runItem item s = .next t) (items : List HostItem) :
    runItem item (s.setPort items) = .next (t.setPort items) := by
  cases item with
  | command w =>
    cases hd : decode w with
    | ok i =>
      have hexec : exec i s = .next t := (runCommand_of_ok hd s).symm.trans h
      exact (runCommand_of_ok hd _).trans (exec_setPort hexec items)
    | error c =>
      have hrej : Host.Outcome.next (Rejected (causeCode c) w s) = .next t := (runCommand_of_error hd s).symm.trans h
      cases hrej
      exact runCommand_of_error hd _
  | read a =>
    cases h
    rfl
  | reset =>
    cases h
    rfl

/-- Every item runs to completion (60_exceptions.md R200, 20_memory.md R45). -/
theorem runItem_completes (item : HostItem) (s : State) : ∃ t, runItem item s = .next t := by
  by_cases hreset : item = .reset
  · subst hreset
    exact ⟨_, rfl⟩
  · obtain ⟨t, ht, -⟩ := StoresOnly.of_runItem hreset s
    exact ⟨t, ht⟩

/-- One item of a run, with any queue behind it. -/
theorem run_cons_of_runItem {item : HostItem} (h : runItem item s = .next t) (rest : List HostItem) (n : Nat) :
    Host.Core.run core (n + 1) (s.setPort (item :: rest)) = Host.Core.run core n (t.setPort rest) :=
  run_succ_of_next ((step_of_port_cons (s := s.setPort (item :: rest)) rfl).trans (runItem_setPort h rest)) n

/-- Settles O7, by induction on the items: the first does the same whatever follows it, and leaves the rest. -/
theorem laterItemsAreInvisible : Obligations.LaterItemsAreInvisible := by
  intro s xs ys
  induction xs generalizing s with
  | nil => exact ⟨s.setPort [], rfl, rfl, rfl⟩
  | cons x xs ih =>
    obtain ⟨u, hu⟩ := runItem_completes x s
    obtain ⟨t, halone, hport, hfollowed⟩ := ih u
    exact ⟨t, (run_cons_of_runItem hu xs xs.length).trans halone, hport,
      (run_cons_of_runItem hu (xs ++ ys) xs.length).trans hfollowed⟩

/-! ### The buffers by name -/

/-- The width of a buffer's entries (10_state.md R21, R23, R25, R34). -/
def BufferName.width : BufferName → Nat
  | .val => 16
  | .decVal => 16
  | .txb => 8
  | .rxb => 8

/-- The contents of a buffer. -/
def BufferName.memory (s : State) : (b : BufferName) → Memory b.width
  | .val => s.val
  | .decVal => s.decVal
  | .txb => s.txb
  | .rxb => s.rxb

/-- Reading an entry for the host is reading the buffer and zero-extending (20_memory.md R41, R43). -/
theorem readEntry_eq (s : State) (b : BufferName) (i : Nat) :
    readEntry s b i = (((b.memory s).read i s.draws).1.setWidth 32, ((b.memory s).read i s.draws).2) := by
  cases b <;> rfl

theorem readEntry_of_lookup {b : BufferName} {i : Nat} {v : BitVec b.width} (h : (b.memory s).lookup i = some v) :
    readEntry s b i = (v.setWidth 32, s.draws) := by
  rw [readEntry_eq, Memory.read_of_lookup h]

theorem readEntry_unwritten {b : BufferName} {i : Nat} (h : (b.memory s).lookup i = none) :
    readEntry s b i = ((Config.freeDraw b.width s.draws).setWidth 32, s.draws + 1) := by
  rw [readEntry_eq, Memory.read_unwritten h]

/-- The unwritten addresses of all four windows, named by their buffers. -/
theorem unwrittenAt_iff : s.UnwrittenAt a ↔
    ∃ (b : BufferName) (i : Nat), i < b.capacity s ∧ a.toNat = b.base + i ∧ (b.memory s).lookup i = none := by
  constructor
  · rintro (h | h | h | h)
    · exact ⟨.val, h⟩
    · exact ⟨.decVal, h⟩
    · exact ⟨.txb, h⟩
    · exact ⟨.rxb, h⟩
  · rintro ⟨b, h⟩
    cases b with
    | val => exact .inl h
    | decVal => exact .inr (.inl h)
    | txb => exact .inr (.inr (.inl h))
    | rxb => exact .inr (.inr (.inr h))

/-! ### The address map (20_memory.md R42 to R44) -/

theorem BufferName.covers_iff {b : BufferName} :
    b.covers s a = true ↔ b.base ≤ a.toNat ∧ a.toNat < b.base + b.capacity s := by
  simp [BufferName.covers]

theorem BufferName.mem_all (b : BufferName) : b ∈ BufferName.all := by cases b <;> decide

theorem inWindow_of_covers {b : BufferName} (h : b.covers s a = true) : s.InWindow a := by
  have hrange := BufferName.covers_iff.1 h
  cases b with
  | val => exact .inl hrange
  | decVal => exact .inr (.inl hrange)
  | txb => exact .inr (.inr (.inl hrange))
  | rxb => exact .inr (.inr (.inr hrange))

/-- The rows of R42 are the registers with their values. -/
theorem registerMap_eq (s : State) : s.registerMap = Reg.all.map fun r => (r.address, r.value s) := rfl

theorem Reg.address_lt (r : Reg) : r.address.toNat < 0x10000 := by cases r <;> decide

/-- No two registers share an address. -/
theorem Reg.find_address (r : Reg) : (Reg.all.find? fun r' => r'.address == r.address) = some r := by
  cases r <;> decide

theorem readTarget_register (s : State) (r : Reg) : readTarget s r.address = .register r := by
  unfold readTarget
  rw [r.find_address]

theorem Reg.find_eq_none (h : ∀ r : Reg, r.address ≠ a) : (Reg.all.find? fun r => r.address == a) = none :=
  List.find?_eq_none.2 fun r _ => by simpa using h r

theorem readTarget_unmapped (hreg : ∀ r : Reg, r.address ≠ a) (hwin : ¬ s.InWindow a) :
    readTarget s a = .unmapped := by
  have hnone : (BufferName.all.find? fun b => b.covers s a) = none :=
    List.find?_eq_none.2 fun b _ hcov => hwin (inWindow_of_covers hcov)
  unfold readTarget
  rw [Reg.find_eq_none hreg, hnone]

/-- The entry an address names lies in its buffer, at the window's base plus its index. -/
theorem readTarget_eq_entry {b : BufferName} {i : Nat} (h : readTarget s a = .entry b i) :
    i < b.capacity s ∧ a.toNat = b.base + i := by
  unfold readTarget at h
  split at h
  · cases h
  · split at h
    next b' hfind =>
      cases h
      obtain ⟨hlo, hhi⟩ := BufferName.covers_iff.1 (List.find?_some hfind)
      omega
    next => cases h

/-- A legal MAX_REGS keeps every buffer inside its window of 0x10000 addresses (00_scope.md R7, 20_memory.md R43). -/
theorem BufferName.capacity_lt (hlegal : s.LegalMaxRegs) (b : BufferName) : b.capacity s < 0x10000 := by
  have hmax : s.maxRegs ≤ 32763 := hlegal.2
  cases b <;> simp only [BufferName.capacity, State.frameMax] <;> omega

theorem BufferName.base_injective {b b' : BufferName} (h : b.base = b'.base) : b = b' := by
  revert h
  cases b <;> cases b' <;> decide

/-- For a legal MAX_REGS the upper half of an address tells which window it can lie in: windows do not overlap. -/
theorem BufferName.base_eq_of_covers (hlegal : s.LegalMaxRegs) {b : BufferName} (h : b.covers s a = true) :
    b.base = a.toNat / 0x10000 * 0x10000 := by
  have hcap := b.capacity_lt hlegal
  have hbase : b.base % 0x10000 = 0 := by cases b <;> decide
  rw [BufferName.covers_iff] at h
  omega

theorem BufferName.find_covers (hlegal : s.LegalMaxRegs) {b : BufferName} (h : b.covers s a = true) :
    (BufferName.all.find? fun b => b.covers s a) = some b := by
  cases hfind : BufferName.all.find? fun b => b.covers s a with
  | none => exact absurd h (List.find?_eq_none.1 hfind b b.mem_all)
  | some b' =>
    have hbase := (BufferName.base_eq_of_covers hlegal (List.find?_some hfind)).trans
      (BufferName.base_eq_of_covers hlegal h).symm
    rw [BufferName.base_injective hbase]

theorem readTarget_entry (hlegal : s.LegalMaxRegs) {b : BufferName} {i : Nat} (hi : i < b.capacity s)
    (ha : a.toNat = b.base + i) : readTarget s a = .entry b i := by
  have hcov : b.covers s a = true := BufferName.covers_iff.2 (by omega)
  have hreg : ∀ r : Reg, r.address ≠ a := by
    rintro r rfl
    have hlow := r.address_lt
    have hbase : 0x10000 ≤ b.base := by cases b <;> decide
    omega
  unfold readTarget
  rw [Reg.find_eq_none hreg, BufferName.find_covers hlegal hcov]
  simp [ha]

/-! ### What a read returns -/

theorem readPort_register (s : State) (r : Reg) : readPort s r.address = (r.value s, s.draws) := by
  unfold readPort
  rw [readTarget_register]

theorem readPort_of_mem_registerMap {v : Word} (h : (a, v) ∈ s.registerMap) : readPort s a = (v, s.draws) := by
  rw [registerMap_eq] at h
  obtain ⟨r, -, hr⟩ := List.mem_map.1 h
  cases hr
  exact readPort_register s r

theorem readPort_of_unmapped (h : readTarget s a = .unmapped) : readPort s a = (0#32, s.draws) := by
  unfold readPort
  rw [h]

theorem readPort_of_entry {b : BufferName} {i : Nat} (h : readTarget s a = .entry b i) :
    readPort s a = readEntry s b i := by
  unfold readPort
  rw [h]

/-- An entry below its capacity reads what was last written there, zero-extended (20_memory.md R43). -/
theorem readPort_written (hlegal : s.LegalMaxRegs) (b : BufferName) {i : Nat} {v : BitVec b.width}
    (hi : i < b.capacity s) (h : (b.memory s).lookup i = some v) :
    readPort s (BitVec.ofNat 32 (b.base + i)) = (v.setWidth 32, s.draws) := by
  have haddr : (BitVec.ofNat 32 (b.base + i)).toNat = b.base + i := by
    have hcap := b.capacity_lt hlegal
    have hbase : b.base ≤ 0x40000 := by cases b <;> decide
    rw [BitVec.toNat_ofNat, Nat.mod_eq_of_lt (by omega)]
  rw [readPort_of_entry (readTarget_entry hlegal hi haddr), readEntry_of_lookup h]

/-- Only a read of an unwritten entry draws (10_state.md R39). -/
theorem readPort_draws_of_written (h : ¬ s.UnwrittenAt a) : (readPort s a).2 = s.draws := by
  unfold readPort
  split
  next => rfl
  next b i htarget =>
    obtain ⟨hi, ha⟩ := readTarget_eq_entry htarget
    cases hl : (b.memory s).lookup i with
    | none => exact absurd (unwrittenAt_iff.2 ⟨b, i, hi, ha, hl⟩) h
    | some v => rw [readEntry_of_lookup hl]
  next => rfl

theorem readPort_draws_le (s : State) (a : Word) : s.draws ≤ (readPort s a).2 := by
  unfold readPort
  split
  next => exact Nat.le_refl _
  next b i _ =>
    rw [readEntry_eq]
    exact Memory.read_draws_le _ _ _
  next => exact Nat.le_refl _

/-- Zero-extending a value keeps the bound its width gives. -/
theorem toNat_setWidth_lt {w m n : Nat} (v : BitVec w) (h : w ≤ n) : (v.setWidth m).toNat < 2 ^ n :=
  calc (v.setWidth m).toNat = v.toNat % 2 ^ m := BitVec.toNat_setWidth ..
    _ ≤ v.toNat := Nat.mod_le _ _
    _ < 2 ^ w := v.isLt
    _ ≤ 2 ^ n := Nat.pow_le_pow_right (by decide) h

/-- Reading an unwritten entry draws once, and gives a value of the entry's width (10_state.md R39, 20_memory.md R43). -/
theorem readPort_unwritten (hlegal : s.LegalMaxRegs) (h : s.UnwrittenAt a) :
    (readPort s a).2 = s.draws + 1 ∧ (readPort s a).1.toNat < 2 ^ 16 ∧
      (0x30000 ≤ a.toNat → (readPort s a).1.toNat < 2 ^ 8) := by
  obtain ⟨b, i, hi, ha, hnone⟩ := unwrittenAt_iff.1 h
  have hwide : b.width ≤ 16 := by cases b <;> decide
  have hnarrow : 0x30000 ≤ a.toNat → b.width ≤ 8 := by
    intro hlo
    have hcap := b.capacity_lt hlegal
    cases b with
    | val =>
      simp only [BufferName.base] at ha
      omega
    | decVal =>
      simp only [BufferName.base] at ha
      omega
    | txb => exact Nat.le_refl 8
    | rxb => exact Nat.le_refl 8
  rw [readPort_of_entry (readTarget_entry hlegal hi ha), readEntry_unwritten hnone]
  exact ⟨rfl, toNat_setWidth_lt _ hwide, fun hlo => toNat_setWidth_lt _ (hnarrow hlo)⟩

/-! ### A step that takes a read -/

/-- A step that takes a read answers what the read port gives and changes nothing else but the count of
draws (20_memory.md R41, R45). -/
theorem step_read (h : s.port = .read a :: rest) :
    step s = .next { s with port := rest, answers := s.answers ++ [(readPort s a).1], draws := (readPort s a).2 } :=
  step_of_port_cons h

theorem step_read_of_readPort {v : Word} {d : Nat} (h : s.port = .read a :: rest) (hv : readPort s a = (v, d)) :
    step s = .next { s with port := rest, answers := s.answers ++ [v], draws := d } := by
  rw [step_read h, hv]

/-- A read of a register, a written entry or an unmapped address draws nothing. -/
theorem step_read_of_written (h : s.port = .read a :: rest) (hwritten : ¬ s.UnwrittenAt a) :
    step s = .next { s with port := rest, answers := s.answers ++ [(readPort s a).1] } :=
  step_read_of_readPort h (Prod.ext rfl (readPort_draws_of_written hwritten))

/-- Settles O39: the register at the address is found, and its value answered. -/
theorem registersReadAtTheirAddresses : Obligations.RegistersReadAtTheirAddresses :=
  fun _ _ _ hmem _ hport => step_read_of_readPort hport (readPort_of_mem_registerMap hmem)

/-- Settles O40: a written entry by `readPort_written` for each buffer, an unwritten one by `readPort_unwritten`. -/
theorem windowsReadTheBuffers : Obligations.WindowsReadTheBuffers :=
  ⟨fun _ _ _ => step_read, fun _ _ hlegal =>
    ⟨fun _ => readPort_written hlegal .val, fun _ => readPort_written hlegal .decVal,
      fun _ => readPort_written hlegal .txb, fun _ => readPort_written hlegal .rxb,
      fun _ => readPort_unwritten hlegal⟩⟩

/-- Settles O41: neither search of the address map finds anything. -/
theorem unmappedAddressesReadZero : Obligations.UnmappedAddressesReadZero := by
  intro s a hmap hwin rest hport
  have hreg : ∀ r : Reg, r.address ≠ a := by
    rintro r rfl
    refine hmap (r.value s) (registerMap_eq s ▸ List.mem_map_of_mem ?_)
    exact List.mem_of_find?_eq_some r.find_address
  exact step_read_of_readPort hport (readPort_of_unmapped (readTarget_unmapped hreg hwin))

/-- Settles O42: the first read of an address with a value draws nothing, so the second finds the machine as it was. -/
theorem readsHaveNoSideEffects : Obligations.ReadsHaveNoSideEffects := by
  refine ⟨fun s a rest hport => ⟨_, _, step_read hport, readPort_draws_le s a⟩, fun s a rest hport hwritten => ?_⟩
  have hfirst := step_read_of_written hport hwritten
  have hsecond := step_read_of_written
    (s := (s.setPort (.read a :: rest)).setAnswers (s.answers ++ [(readPort s a).1])) rfl hwritten
  refine ⟨(readPort s a).1, ?_⟩
  rw [List.append_cons]
  exact (run_succ_of_next hfirst 1).trans (run_succ_of_next hsecond 0)

end Sys2Proof.Machine
end

section
/-! The encoding claims (30_encoding.md): a word and its command determine each other (R66, R67, R69), the words the
spec lists, and the step that takes a command word (20_memory.md R48). -/

namespace Sys2Proof

variable {fixed mask w : Word} {n : Nat}

/-! ### An operand in the low bits of a word (30_encoding.md R63 to R66) -/

theorem extractLsb'_or_setWidth (hn : n ≤ 32) (hfixed : fixed.extractLsb' 0 n = 0#n) (v : BitVec n) :
    (fixed ||| v.setWidth 32).extractLsb' 0 n = v := by
  rw [BitVec.extractLsb'_or, hfixed, BitVec.zero_or, BitVec.extractLsb'_setWidth_of_le (by omega),
    BitVec.extractLsb'_eq_self]

/-- A word is its row's fixed bits and its low `n` bits, where the mask leaves no higher bit free. -/
theorem or_extractLsb'_of_and (h : w &&& mask = fixed) (hmask : ∀ k : Nat, n ≤ k → k < 32 → mask.getLsbD k = true) :
    fixed ||| (w.extractLsb' 0 n).setWidth 32 = w := by
  subst h
  refine BitVec.eq_of_getLsbD_eq fun k hk => ?_
  by_cases hn : n ≤ k
  · simp [hmask k hn hk, hn]
  · simp +contextual [hk, Nat.not_le.1 hn]

theorem sidField_eq (w : Word) : sidField w = (halfField w).extractLsb' 8 8 := by
  refine BitVec.eq_of_getLsbD_eq fun k hk => ?_
  simp [sidField, halfField]

theorem fcField_eq (w : Word) : fcField w = (halfField w).extractLsb' 0 8 := by
  refine BitVec.eq_of_getLsbD_eq fun k hk => ?_
  simp [fcField, halfField]

theorem sidField_append_fcField (w : Word) : sidField w ++ fcField w = halfField w :=
  BitVec.extractLsb'_append_extractLsb'_eq_extractLsb' rfl

/-- ENCHDR's two bytes as one 16-bit operand. -/
theorem encode_enchdr_eq_or (sid fc : Byte) :
    encode (.enchdr sid fc) = 0x10000000#32 ||| (sid ++ fc : Half).setWidth 32 := by
  rw [encode, BitVec.setWidth_append_eq_shiftLeft_setWidth_or, BitVec.or_assoc]

/-! ### Decoding an encoded command -/

/-- A well-formed command's word is legal (30_encoding.md R67). -/
theorem encode_legal (i : Instr) : Laws.EncodesLegalWord.Statement i := by
  cases i with
  | crcinit => exact Laws.EncodesLegalWord.crcinit
  | crcbyte b => exact Laws.EncodesLegalWord.crcbyte b
  | enchdr sid fc => exact Laws.EncodesLegalWord.enchdr sid fc
  | encaddr a => exact Laws.EncodesLegalWord.encaddr a
  | encclr => exact Laws.EncodesLegalWord.encclr
  | encval v => exact Laws.EncodesLegalWord.encval v
  | encgo => exact Laws.EncodesLegalWord.encgo
  | rxclr => exact Laws.EncodesLegalWord.rxclr
  | rxbyte b => exact Laws.EncodesLegalWord.rxbyte b
  | decgo => exact Laws.EncodesLegalWord.decgo
  | setctrl half => exact Laws.EncodesLegalWord.setctrl half
  | errclr => exact Laws.EncodesLegalWord.errclr

/-- The fields of a command's word are its operands (30_encoding.md R66). -/
theorem instr_encode (i : Instr) : i.opcode.instr (encode i) = i := by
  cases i with
  | crcbyte b => exact congrArg Instr.crcbyte (extractLsb'_or_setWidth (by decide) (by decide) b)
  | enchdr sid fc =>
    have hhalf : halfField (encode (.enchdr sid fc)) = sid ++ fc := by
      rw [encode_enchdr_eq_or]
      exact extractLsb'_or_setWidth (by decide) (by decide) (sid ++ fc)
    rw [Instr.opcode, Opcode.instr, sidField_eq, fcField_eq, hhalf, BitVec.extractLsb'_append_eq_left,
      BitVec.extractLsb'_append_eq_right]
  | encaddr a => exact congrArg Instr.encaddr (extractLsb'_or_setWidth (by decide) (by decide) a)
  | encval v => exact congrArg Instr.encval (extractLsb'_or_setWidth (by decide) (by decide) v)
  | rxbyte b => exact congrArg Instr.rxbyte (extractLsb'_or_setWidth (by decide) (by decide) b)
  | setctrl half => exact congrArg Instr.setctrl (extractLsb'_or_setWidth (by decide) (by decide) half)
  | _ => rfl

/-- Settles O1: the word is legal, so it decodes to its row's command, whose operands are the word's fields. -/
theorem decodeOfEncodeIsIdentity : Obligations.DecodeOfEncodeIsIdentity := by
  intro i hwf
  obtain ⟨hlegal, hop⟩ := encode_legal i hwf
  rw [decode_of_legal i.opcode hop hlegal, instr_encode]

/-! ### Encoding a decoded word -/

/-- Encoding puts back every bit of a legal word: no mask leaves a bit above the operand free (30_encoding.md R67). -/
theorem encode_instr {op : Opcode} (h : w &&& op.mask = op.matchWord) : encode (op.instr w) = w := by
  cases op with
  | crcbyte => exact or_extractLsb'_of_and h (by decide)
  | enchdr =>
    rw [Opcode.instr, encode_enchdr_eq_or, sidField_append_fcField]
    exact or_extractLsb'_of_and h (by decide)
  | encaddr => exact or_extractLsb'_of_and h (by decide)
  | encval => exact or_extractLsb'_of_and h (by decide)
  | rxbyte => exact or_extractLsb'_of_and h (by decide)
  | setctrl => exact or_extractLsb'_of_and h (by decide)
  | _ => exact h.symm.trans BitVec.and_allOnes

/-- SETCTRL's word leaves only bit 0 of its operand free (30_encoding.md R67). -/
theorem instr_wellFormed {op : Opcode} (hop : opField w = op.byte) (h : w &&& op.mask = op.matchWord) :
    (op.instr w).wellFormed = true := by
  cases op with
  | setctrl =>
    have hreserved : w.extractLsb' 1 23 = 0#23 :=
      (legal_iff_reserved_zero 1 (by decide) hop (by decide) (by decide)).1 h
    have hzero : w.toNat / 2 % 2 ^ 23 = 0 := by
      simpa [BitVec.extractLsb'_toNat, Nat.shiftRight_eq_div_pow] using congrArg BitVec.toNat hreserved
    have hhalf : halfField w >>> 1 = 0#16 := by
      apply BitVec.eq_of_toNat_eq
      simp only [halfField, BitVec.toNat_ushiftRight, BitVec.extractLsb'_toNat, Nat.shiftRight_eq_div_pow,
        BitVec.toNat_ofNat]
      omega
    simp [Opcode.instr, Instr.wellFormed, hhalf]
  | _ => rfl

/-- Settles O2: only a legal word decodes, and it is its fixed bits and the operands its fields give. -/
theorem encodeOfDecodeIsIdentity : Obligations.EncodeOfDecodeIsIdentity := by
  intro w i h
  obtain ⟨-, herr⟩ | ⟨op, hop, ⟨-, herr⟩ | ⟨hlegal, hok⟩⟩ := decode_cases w
  · exact nomatch herr.symm.trans h
  · exact nomatch herr.symm.trans h
  · cases hok.symm.trans h
    exact ⟨encode_instr hlegal, instr_wellFormed hop hlegal⟩

/-! ### Listed words -/

/-- Settles O3: each accepted word is the encoding of its command. -/
theorem listedWordsDecode : Obligations.ListedWordsDecode :=
  ⟨decodeOfEncodeIsIdentity (.enchdr 1#8 3#8) rfl,
    decodeOfEncodeIsIdentity (.encaddr 0x006B#16) rfl,
    decodeOfEncodeIsIdentity .encclr rfl,
    decodeOfEncodeIsIdentity (.encval 2#16) rfl,
    decodeOfEncodeIsIdentity .encgo rfl,
    decodeOfEncodeIsIdentity (.rxbyte 0x9C#8) rfl,
    decodeOfEncodeIsIdentity (.setctrl 1#16) rfl,
    decode_of_reserved .setctrl rfl (by decide),
    decode_of_undefined fun op => by cases op <;> decide⟩

end Sys2Proof

namespace Sys2Proof.Machine

/-! ### A step on a command word (20_memory.md R48) -/

theorem step_of_decode {s : State} {w : Word} {i : Instr} {rest : List HostItem} (hp : s.Presents w rest)
    (h : decode w = .ok i) : step s = exec i (s.setPort rest) :=
  (step_of_port_cons hp).trans (runCommand_of_ok h _)

theorem withFetchWord_presents (s : State) (w : Word) : (s.withFetchWord 32 w.toNat).Presents w s.port := by
  simp [State.withFetchWord, State.Presents, Nat.mod_eq_of_lt w.isLt]

/-- Settles O4: the placed word decodes to its command by O1, and taking it leaves what was presented before. -/
theorem stepRunsTheDecodedCommand : Obligations.StepRunsTheDecodedCommand :=
  ⟨fun _ _ _ _ => step_of_decode,
    fun s i hwf => step_of_decode (withFetchWord_presents s (encode i)) (decodeOfEncodeIsIdentity i hwf)⟩

end Sys2Proof.Machine
end

section
/-! The assembler's claims (30_encoding.md R74, R75): the words of every form and of every pseudo-instruction, with the
refusals. -/

namespace Sys2Proof.Machine

/-! ### The words of R74's table as numbers -/

/-- An operand in bits the row leaves at 0 is added to its match. -/
theorem or_setWidth_eq_ofNat {n : Nat} (fixed : Word) (v : BitVec n)
    (hfixed : fixed &&& (BitVec.allOnes n).setWidth 32 = 0#32) :
    fixed ||| v.setWidth 32 = BitVec.ofNat 32 (fixed.toNat + v.toNat) := by
  have hdisjoint : fixed &&& v.setWidth 32 = 0#32 := by
    have hv : v.setWidth 32 = (BitVec.allOnes n).setWidth 32 &&& v.setWidth 32 := by
      rw [← BitVec.setWidth_and, BitVec.allOnes_and]
    rw [hv, ← BitVec.and_assoc, hfixed, BitVec.zero_and]
  rw [← BitVec.add_eq_or_of_and_eq_zero _ _ hdisjoint]
  apply BitVec.eq_of_toNat_eq
  simp

theorem encode_crcbyte (b : Byte) : encode (.crcbyte b) = BitVec.ofNat 32 (0x02000000 + b.toNat) :=
  or_setWidth_eq_ofNat 0x02000000#32 b (by decide)

theorem encode_rxbyte (b : Byte) : encode (.rxbyte b) = BitVec.ofNat 32 (0x21000000 + b.toNat) :=
  or_setWidth_eq_ofNat 0x21000000#32 b (by decide)

theorem encode_encaddr (a : Half) : encode (.encaddr a) = BitVec.ofNat 32 (0x11000000 + a.toNat) :=
  or_setWidth_eq_ofNat 0x11000000#32 a (by decide)

theorem encode_encval (v : Half) : encode (.encval v) = BitVec.ofNat 32 (0x13000000 + v.toNat) :=
  or_setWidth_eq_ofNat 0x13000000#32 v (by decide)

theorem encode_setctrl (half : Half) : encode (.setctrl half) = BitVec.ofNat 32 (0x30000000 + half.toNat) :=
  or_setWidth_eq_ofNat 0x30000000#32 half (by decide)

theorem encode_enchdr (sid fc : Byte) :
    encode (.enchdr sid fc) = BitVec.ofNat 32 (0x10000000 + 256 * sid.toNat + fc.toNat) := by
  have hword := or_setWidth_eq_ofNat 0x10000000#32 (joinBytes sid fc) (by decide)
  rw [joinBytes_toNat, ← Nat.add_assoc] at hword
  exact (encode_enchdr_eq_or sid fc).trans hword

/-! ### Operands and their ranges (30_encoding.md R74) -/

/-- A line of one operand: its word if the operand is in range. -/
theorem words_of_operand {width last base : Nat} (hlast : last < 2 ^ width) {form : BitVec width → Instr}
    (hword : ∀ v, encode (form v) = BitVec.ofNat 32 (base + v.toNat)) (n : Nat) :
    (((if n < last + 1 then some (BitVec.ofNat width n) else none).map fun v => [form v]).map fun is => is.map encode) =
      if n ≤ last then some [BitVec.ofNat 32 (base + n)] else none := by
  by_cases hn : n ≤ last
  · have hfits : n < 2 ^ width := by omega
    simp [hn, Nat.lt_succ_of_le hn, hword, Nat.mod_eq_of_lt hfits]
  · simp [hn, show ¬ n < last + 1 by omega]

theorem byteOperand_of_le {n : Nat} (h : n ≤ 255) : byteOperand n = some (BitVec.ofNat 8 n) := if_pos (by omega)

theorem byteOperand_of_gt {n : Nat} (h : ¬ n ≤ 255) : byteOperand n = none := if_neg (by omega)

theorem asmLine_enchdr (m sid fc : Nat) :
    asmLine m (.op .enchdr [sid, fc]) =
      if sid ≤ 255 ∧ fc ≤ 255 then some [BitVec.ofNat 32 (0x10000000 + 256 * sid + fc)] else none := by
  unfold asmLine asmInstrs
  by_cases hsid : sid ≤ 255
  · by_cases hfc : fc ≤ 255
    · simp [byteOperand_of_le, hsid, hfc, encode_enchdr, Nat.mod_eq_of_lt (show sid < 256 by omega),
        Nat.mod_eq_of_lt (show fc < 256 by omega)]
    · simp [byteOperand_of_gt hfc, hfc]
  · simp [byteOperand_of_gt hsid, hsid]

/-! ### Missing and extra operands (30_encoding.md R74) -/

/-- The forms without operands. -/
theorem asmLine_bare {c : Mnemonic} {i : Instr} (m : Nat) (hbare : asmInstrs m c [] = some [i])
    (hextra : ∀ n ns, asmInstrs m c (n :: ns) = none) (ops : List Nat) :
    asmLine m (.op c ops) = if ops = [] then some [encode i] else none := by
  cases ops with
  | nil => simp [asmLine, hbare]
  | cons n ns => simp [asmLine, hextra]

theorem asmLine_unary_of_length {c : Mnemonic} (hc : c ∈ [Mnemonic.crcbyte, .rxbyte, .encaddr, .encval, .setctrl])
    (m : Nat) {ops : List Nat} (h : ops.length ≠ 1) : asmLine m (.op c ops) = none := by
  have hnone : asmInstrs m c ops = none := by
    match ops with
    | [] => fin_cases hc <;> rfl
    | [_] => exact absurd rfl h
    | _ :: _ :: _ => fin_cases hc <;> rfl
  simp [asmLine, hnone]

theorem asmLine_enchdr_of_length (m : Nat) {ops : List Nat} (h : ops.length ≠ 2) :
    asmLine m (.op .enchdr ops) = none := by
  match ops with
  | [] => rfl
  | [_] => rfl
  | [_, _] => exact absurd rfl h
  | _ :: _ :: _ :: _ => rfl

/-- Settles O48: the bare forms, the forms of one operand by its field's range, ENCHDR, and the wrong lengths. -/
theorem assemblerWords : Obligations.AssemblerWords := by
  intro m ops
  refine ⟨asmLine_bare (i := .crcinit) m rfl (fun _ _ => rfl) ops,
    asmLine_bare (i := .encclr) m rfl (fun _ _ => rfl) ops,
    asmLine_bare (i := .encgo) m rfl (fun _ _ => rfl) ops,
    asmLine_bare (i := .rxclr) m rfl (fun _ _ => rfl) ops,
    asmLine_bare (i := .decgo) m rfl (fun _ _ => rfl) ops,
    asmLine_bare (i := .errclr) m rfl (fun _ _ => rfl) ops, ?_, ?_, ?_, ?_, ?_, ?_,
    fun h c hc => asmLine_unary_of_length hc m h, asmLine_enchdr_of_length m, fun _ => rfl⟩
  · rintro b rfl
    exact words_of_operand (last := 255) (by decide) encode_crcbyte b
  · rintro b rfl
    exact words_of_operand (last := 255) (by decide) encode_rxbyte b
  · rintro a rfl
    exact words_of_operand (last := 65535) (by decide) encode_encaddr a
  · rintro v rfl
    exact words_of_operand (last := 65535) (by decide) encode_encval v
  · rintro v rfl
    exact words_of_operand (last := 1) (by decide) encode_setctrl v
  · rintro sid fc rfl
    exact asmLine_enchdr m sid fc

/-! ### Pseudo-instructions (30_encoding.md R75) -/

theorem byteOperand_toNat (b : Byte) : byteOperand b.toNat = some b := by simp [byteOperand, b.isLt]

theorem halfOperand_toNat (v : Half) : halfOperand v.toNat = some v := by simp [halfOperand, v.isLt]

/-- Operands that are all accepted are all kept. -/
theorem allSome_map {α β : Type} {f : α → Option β} {g : β → α} (h : ∀ b, f (g b) = some b) (bs : List β) :
    allSome f (bs.map g) = some bs := by
  induction bs with
  | nil => rfl
  | cons b bs ih => simp [allSome, h, ih]

theorem asmInstrs_crcseq (m : Nat) (bytes : List Byte) :
    asmInstrs m .crcseq (bytes.map BitVec.toNat) = (Pseudo.crcseq bytes).expand m := by
  simp [asmInstrs, allSome_map byteOperand_toNat]

theorem asmInstrs_rxload (m : Nat) (bytes : List Byte) :
    asmInstrs m .rxload (bytes.map BitVec.toNat) = (Pseudo.rxload bytes).expand m := by
  simp [asmInstrs, allSome_map byteOperand_toNat]

theorem asmInstrs_decode (m : Nat) (bytes : List Byte) :
    asmInstrs m .decode (bytes.map BitVec.toNat) = (Pseudo.decode bytes).expand m := by
  simp [asmInstrs, allSome_map byteOperand_toNat]

theorem asmInstrs_encode (m : Nat) (sid fc : Byte) (addr : Half) (vals : List Half) :
    asmInstrs m .encode (sid.toNat :: fc.toNat :: addr.toNat :: vals.map BitVec.toNat) =
      (Pseudo.encode sid fc addr vals).expand m := by
  simp [asmInstrs, byteOperand_toNat, halfOperand_toNat, allSome_map halfOperand_toNat]

/-- The words of an expansion that is refused for want of capacity. -/
theorem words_of_capacity {fits : Prop} [Decidable fits] {is : List Instr} {words : List Word}
    (h : is.map encode = words) :
    (if fits then some is else none).map (fun is => is.map encode) = if fits then some words else none := by
  split
  · exact congrArg some h
  · rfl

/-- A row of commands of one form has its words, one for each operand. -/
theorem map_encode_map {width base : Nat} {form : BitVec width → Instr}
    (hword : ∀ v, encode (form v) = BitVec.ofNat 32 (base + v.toNat)) (vs : List (BitVec width)) :
    (vs.map form).map encode = vs.map fun v => BitVec.ofNat 32 (base + v.toNat) := by
  rw [List.map_map]
  exact List.map_congr_left fun v _ => hword v

/-- Settles O49: the operands are accepted, and each command of the expansion has its word. -/
theorem pseudoInstructionsExpand : Obligations.PseudoInstructionsExpand := by
  intro m bytes sid fc addr vals
  refine ⟨?_, ?_, ?_, rfl, rfl, ?_⟩
  · rw [asmLine, asmInstrs_crcseq, ← map_encode_map encode_crcbyte]
    rfl
  · rw [asmLine, asmInstrs_rxload, ← map_encode_map encode_rxbyte]
    exact words_of_capacity rfl
  · rw [asmLine, asmInstrs_decode, ← map_encode_map encode_rxbyte]
    exact words_of_capacity (List.map_append ..)
  · rw [asmLine, asmInstrs_encode, ← map_encode_map encode_encval, ← encode_enchdr, ← encode_encaddr]
    refine words_of_capacity ?_
    rw [List.map_append, List.map_append]
    rfl

end Sys2Proof.Machine
end

section
/-! The CRC claims (40_crc.md): CRC16 as arithmetic and as the catalogue's CRC (R100 to R102), the residue of a payload
with its CRC, and the commands CRCINIT and CRCBYTE with what they leave alone (R103 to R105). -/

namespace Sys2Proof.Machine

/-! ### Bit reversal, which the library does not relate to XOR, shifts and zero extension -/

theorem reverse_xor {n : Nat} (x y : BitVec n) : (x ^^^ y).reverse = x.reverse ^^^ y.reverse := by
  refine BitVec.eq_of_getLsbD_eq fun k hk => ?_
  simp [BitVec.getLsbD_reverse, BitVec.getMsbD_xor]

/-- Reversal turns a shift towards the low end into one towards the high end. -/
theorem reverse_ushiftRight {n : Nat} (x : BitVec n) (m : Nat) : (x >>> m).reverse = x.reverse <<< m := by
  refine BitVec.eq_of_getLsbD_eq fun k hk => ?_
  rw [BitVec.getLsbD_reverse, BitVec.getMsbD_ushiftRight, BitVec.getLsbD_shiftLeft, BitVec.getLsbD_reverse]
  simp [hk]

/-- A byte in the low half of 16 bits, reversed, is the reversed byte in the high half. -/
theorem reverse_setWidth_byte (b : Byte) : (b.setWidth 16).reverse = b.reverse.setWidth 16 <<< 8 := by
  refine BitVec.eq_of_getLsbD_eq fun k hk => ?_
  rw [BitVec.getLsbD_reverse, BitVec.getMsbD_setWidth, BitVec.getLsbD_shiftLeft, BitVec.getLsbD_setWidth,
    BitVec.getLsbD_reverse]
  have hin : k - 8 < 16 := by omega
  by_cases hk8 : k < 8
  · simp [hk8]
  · simp [hk8, hk, hin, Nat.not_lt.1 hk8]

/-! ### One round, and eight -/

theorem crcRound_of_low_bit {a : Half} (h : a.getLsbD 0 = true) : crcRound a = (a >>> 1) ^^^ 0xA001#16 := if_pos h

theorem crcRound_of_low_bit_clear {a : Half} (h : a.getLsbD 0 = false) : crcRound a = a >>> 1 :=
  if_neg (ne_true_of_eq_false h)

theorem crcRounds_eq_iterate (n : Nat) (a : Half) : crcRounds n a = crcRound^[n] a := by
  induction n generalizing a with
  | zero => rfl
  | succ n ih => exact ih (crcRound a)

theorem catalogueRounds_eq_iterate (n : Nat) (a : Half) : catalogueRounds n a = catalogueRound^[n] a := by
  induction n generalizing a with
  | zero => rfl
  | succ n ih => exact ih (catalogueRound a)

/-! ### The catalogue's CRC (R102): its rounds are CRC_STEP's, seen through bit reversal -/

/-- The bit shifted out is the low one here and the high one there, and 0x8005 is 0xA001 reversed. -/
theorem reverse_crcRound : Function.Semiconj BitVec.reverse crcRound catalogueRound := by
  intro a
  unfold catalogueRound
  rw [BitVec.msb_reverse, ← reverse_ushiftRight]
  cases h : a.getLsbD 0
  · simp [crcRound_of_low_bit_clear h]
  · rw [crcRound_of_low_bit h, reverse_xor]
    rfl

theorem catalogueStep_reverse (acc : Half) (b : Byte) :
    catalogueStep acc.reverse b.reverse = (crcStep acc b).reverse := by
  rw [catalogueStep, crcStep, ← reverse_setWidth_byte, ← reverse_xor, catalogueRounds_eq_iterate, crcRounds_eq_iterate]
  exact ((reverse_crcRound.iterate_right 8).eq _).symm

/-- Settles O14: 0xFFFF is its own reversal, every byte keeps the two accumulators each other's reversal, and reversing
the result undoes it. -/
theorem crcIsTheCatalogueCrc : Obligations.CrcIsTheCatalogueCrc := by
  intro s
  have hfold : s.foldl (fun acc b => catalogueStep acc b.reverse) crcInit.reverse = (crc16 s).reverse :=
    List.foldl_hom BitVec.reverse catalogueStep_reverse
  rw [catalogueCrc, List.foldl_map, ← BitVec.reverse_reverse_eq (x := crc16 s), ← hfold]
  rfl

/-! ### The CRC as arithmetic (R100, R101) -/

/-- A round of CRC_STEP on numbers: the low bit is the remainder by two, the shift is halving. -/
def roundNumber (a : Nat) : Nat := if a % 2 = 1 then (a / 2) ^^^ 0xA001 else a / 2

theorem toNat_crcRound : Function.Semiconj BitVec.toNat crcRound roundNumber := by
  intro a
  have hbit : a.getLsbD 0 = decide (a.toNat % 2 = 1) := by simp [BitVec.getLsbD, Nat.testBit_zero]
  by_cases hodd : a.toNat % 2 = 1
  · rw [crcRound_of_low_bit (by rw [hbit, decide_eq_true hodd]), roundNumber, if_pos hodd]
    simp [Nat.shiftRight_eq_div_pow]
  · rw [crcRound_of_low_bit_clear (by rw [hbit, decide_eq_false hodd]), roundNumber, if_neg hodd]
    simp [Nat.shiftRight_eq_div_pow]

theorem crcStep_toNat (acc : Half) (b : Byte) : (crcStep acc b).toNat = roundNumber^[8] (acc.toNat ^^^ b.toNat) := by
  have hstart : (acc ^^^ b.setWidth 16).toNat = acc.toNat ^^^ b.toNat := by
    rw [BitVec.toNat_xor, BitVec.toNat_setWidth_of_le (by decide)]
  rw [crcStep, crcRounds_eq_iterate, (toNat_crcRound.iterate_right 8).eq, hstart]

theorem crc16_toNat (s : List Byte) : (crc16 s).toNat = crcNumber s :=
  (List.foldl_hom BitVec.toNat fun acc b => (crcStep_toNat acc b).symm).symm

/-- Settles O13: byte by byte by `crcStep_toNat`, and folded over the sequence. -/
theorem crcAgreesWithArithmetic : Obligations.CrcAgreesWithArithmetic :=
  ⟨crcStep_toNat, crc16_toNat, crc16_nil⟩

/-! ### The residue (93_implementation_defined.md I13): a round loses nothing -/

/-- A round leaves the bit it shifts out in the highest bit, which 0xA001 has and a shifted value has not. -/
theorem crcRound_msb (a : Half) : (crcRound a).msb = a.getLsbD 0 := by
  cases h : a.getLsbD 0
  · rw [crcRound_of_low_bit_clear h, BitVec.msb_ushiftRight]
    rfl
  · rw [crcRound_of_low_bit h, BitVec.msb_xor, BitVec.msb_ushiftRight]
    rfl

theorem eq_of_low_bit_eq {a b : Half} (hlow : a.getLsbD 0 = b.getLsbD 0) (hrest : a >>> 1 = b >>> 1) : a = b := by
  refine BitVec.eq_of_getLsbD_eq fun k _ => ?_
  cases k with
  | zero => exact hlow
  | succ k => simpa [Nat.add_comm] using congrArg (BitVec.getLsbD · k) hrest

theorem crcRound_injective : Function.Injective crcRound := by
  intro a b hab
  have hlow : a.getLsbD 0 = b.getLsbD 0 := by rw [← crcRound_msb, ← crcRound_msb, hab]
  refine eq_of_low_bit_eq hlow ?_
  cases h : a.getLsbD 0
  · rwa [crcRound_of_low_bit_clear h, crcRound_of_low_bit_clear (hlow ▸ h)] at hab
  · rw [crcRound_of_low_bit h, crcRound_of_low_bit (hlow ▸ h)] at hab
    exact (BitVec.xor_left_inj _).1 hab

theorem crcRounds_injective (n : Nat) : Function.Injective (crcRounds n) := by
  intro a b hab
  rw [crcRounds_eq_iterate, crcRounds_eq_iterate] at hab
  exact crcRound_injective.iterate n hab

/-- Rounds that shift out zeros only shift. -/
theorem crcRounds_of_low_bits_clear {n : Nat} {a : Half} (h : ∀ k, k < n → a.getLsbD k = false) :
    crcRounds n a = a >>> n := by
  induction n generalizing a with
  | zero => rfl
  | succ n ih =>
    have hshift : ∀ k, k < n → (a >>> 1).getLsbD k = false := by
      intro k hk
      rw [BitVec.getLsbD_ushiftRight]
      exact h (1 + k) (by omega)
    rw [crcRounds, crcRound_of_low_bit_clear (h 0 (by omega)), ih hshift, ← BitVec.shiftRight_add, Nat.add_comm]

theorem crcStep_eq_zero_iff {acc : Half} {b : Byte} : crcStep acc b = 0#16 ↔ acc = b.setWidth 16 := by
  have hzero : crcRounds 8 0#16 = 0#16 := rfl
  rw [crcStep, ← hzero, (crcRounds_injective 8).eq_iff]
  exact BitVec.xor_eq_zero_iff

theorem eq_joinBytes_iff {v : Half} {hi lo : Byte} : v = joinBytes hi lo ↔ lo = loByte v ∧ hi = hiByte v := by
  constructor
  · rintro rfl
    exact ⟨BitVec.extractLsb'_append_eq_right.symm, BitVec.extractLsb'_append_eq_left.symm⟩
  · rintro ⟨rfl, rfl⟩
    exact (joinBytes_hi_lo v).symm

theorem joinBytes_getLsbD (hi lo : Byte) (k : Nat) :
    (joinBytes hi lo).getLsbD k = if k < 8 then lo.getLsbD k else hi.getLsbD (k - 8) := BitVec.getLsbD_append

theorem joinBytes_xor (hi lo hi' lo' : Byte) :
    joinBytes hi lo ^^^ joinBytes hi' lo' = joinBytes (hi ^^^ hi') (lo ^^^ lo') := BitVec.xor_append

theorem setWidth_eq_joinBytes (b : Byte) : b.setWidth 16 = joinBytes 0#8 b := BitVec.setWidth_eq_append (by decide)

/-- Eight rounds over an empty low byte bring the high byte down unchanged. -/
theorem crcRounds_joinBytes_zero (hi : Byte) : crcRounds 8 (joinBytes hi 0#8) = hi.setWidth 16 := by
  have hlow : ∀ k, k < 8 → (joinBytes hi 0#8).getLsbD k = false := by
    intro k hk
    rw [joinBytes_getLsbD, if_pos hk, BitVec.getLsbD_zero]
  rw [crcRounds_of_low_bits_clear hlow]
  refine BitVec.eq_of_getLsbD_eq fun k hk => ?_
  simp [joinBytes_getLsbD, hk]

theorem xor_setWidth_eq_iff {v : Half} {hi lo : Byte} :
    v ^^^ lo.setWidth 16 = joinBytes hi 0#8 ↔ v = joinBytes hi lo := by
  have hlo : joinBytes hi lo ^^^ lo.setWidth 16 = joinBytes hi 0#8 := by
    rw [setWidth_eq_joinBytes, joinBytes_xor, BitVec.xor_zero, BitVec.xor_self]
  rw [← hlo, BitVec.xor_left_inj]

/-- A byte that cancels the low half of the accumulator leaves its high half, shifted down; no other byte does. -/
theorem crcStep_eq_setWidth_iff {acc : Half} {lo hi : Byte} :
    crcStep acc lo = hi.setWidth 16 ↔ acc = joinBytes hi lo := by
  rw [crcStep, ← crcRounds_joinBytes_zero hi, (crcRounds_injective 8).eq_iff, xor_setWidth_eq_iff]

/-- Settles O15: the last byte gives 0 only from an accumulator equal to it, and the byte before leaves that accumulator
only if it is the low byte of the payload's CRC. -/
theorem crcResidueIsZero : Obligations.CrcResidueIsZero := by
  intro p lo hi
  rw [crc16_append]
  exact crcStep_eq_zero_iff.trans (crcStep_eq_setWidth_iff.trans eq_joinBytes_iff)

/-! ### The commands (R103, R104) -/

/-- A word of a row whose operand has `k` bits: with the reserved bits 0 its command runs, otherwise it is rejected. -/
theorem step_of_opcode {s : State} {w : Word} {rest : List HostItem} (op : Opcode) (k : Nat) (hk : k ≤ 24)
    (hmask : ∀ j : Nat, j < 32 → op.mask.getLsbD j = decide (k ≤ j))
    (hmatch : ∀ j : Nat, j < 32 → op.matchWord.getLsbD j = (decide (24 ≤ j) && op.byte.getLsbD (j - 24)))
    (hp : s.Presents w rest) (hop : opcodeOf w = op.byte) :
    (w.extractLsb' k (24 - k) = 0#(24 - k) → step s = exec (op.instr w) { s with port := rest }) ∧
    (w.extractLsb' k (24 - k) ≠ 0#(24 - k) → step s = .next (Rejected 2#8 w { s with port := rest })) := by
  rw [Ne, ← legal_iff_reserved_zero k hk hop hmask hmatch]
  exact ⟨step_of_legal op hp hop, step_of_reserved op hp hop⟩

/-- Settles O16: the word's row is CRCINIT's, which has no operand. -/
theorem crcinitCommand : Obligations.CrcinitCommand :=
  ⟨exec_crcinit, fun _ _ _ => step_of_opcode .crcinit 0 (by decide) (by decide) (by decide)⟩

/-- One CRCBYTE per byte folds CRC_STEP over the bytes. -/
theorem execSeq_crcbyte (bytes : List Byte) (s : State) :
    execSeq (bytes.map Instr.crcbyte) s = .next (s.setCrcAcc (bytes.foldl crcStep s.crcAcc)) := by
  induction bytes generalizing s with
  | nil => rfl
  | cons b bytes ih => exact (execSeq_cons_of_next (exec_crcbyte b s) _).trans (ih _)

/-- Settles O17: the word's row has an 8-bit operand, and the sequences are folds from 0xFFFF. -/
theorem crcbyteCommand : Obligations.CrcbyteCommand :=
  ⟨exec_crcbyte, fun _ _ _ => step_of_opcode .crcbyte 8 (by decide) (by decide) (by decide),
    by decide, by decide, by decide,
    fun bytes s => (execSeq_cons_of_next (exec_crcinit s) _).trans (execSeq_crcbyte bytes _),
    fun bytes m => execSeq_crcbyte bytes (State.resetWith m)⟩

/-! ### CRC_ACC is isolated (R105) -/

/-- A command that is neither CRCINIT nor CRCBYTE does the same whatever CRC_ACC holds. -/
theorem exec_setCrcAcc {i : Instr} (hinit : i.opcode ≠ .crcinit) (hbyte : i.opcode ≠ .crcbyte) (s : State) :
    ∃ t, exec i s = .next t ∧ ∀ a, exec i (s.setCrcAcc a) = .next (t.setCrcAcc a) := by
  cases i with
  | crcinit => exact absurd rfl hinit
  | crcbyte b => exact absurd rfl hbyte
  | encval v =>
    by_cases hfull : s.valLen.toNat = s.maxRegs
    · exact ⟨_, exec_encval_full v hfull, fun a => exec_encval_full (s := s.setCrcAcc a) v hfull⟩
    · exact ⟨_, exec_encval_room v hfull, fun a => exec_encval_room (s := s.setCrcAcc a) v hfull⟩
  | rxbyte b =>
    by_cases hfull : s.rxLen.toNat = s.frameMax
    · exact ⟨_, exec_rxbyte_full b hfull, fun a => exec_rxbyte_full (s := s.setCrcAcc a) b hfull⟩
    · exact ⟨_, exec_rxbyte_room b hfull, fun a => exec_rxbyte_room (s := s.setCrcAcc a) b hfull⟩
  | setctrl half =>
    by_cases hlegal : half >>> 1 = 0#16
    · exact ⟨_, exec_setctrl_legal hlegal s, fun a => exec_setctrl_legal hlegal (s.setCrcAcc a)⟩
    · exact ⟨_, exec_setctrl_reserved hlegal s, fun a => exec_setctrl_reserved hlegal (s.setCrcAcc a)⟩
  | _ => exact ⟨_, rfl, fun _ => rfl⟩

/-- CRCINIT and CRCBYTE store to CRC_ACC and to nothing else. -/
theorem exec_crc_command {i : Instr} (h : i.opcode = .crcinit ∨ i.opcode = .crcbyte) (s : State) :
    ∃ v, exec i s = .next (s.setCrcAcc v) := by
  cases i with
  | crcinit => exact ⟨_, exec_crcinit s⟩
  | crcbyte b => exact ⟨_, exec_crcbyte b s⟩
  | _ => simp [Instr.opcode] at h

/-- Settles O18: keeping CRC_ACC is the case of `exec_setCrcAcc` in which the value CRC_ACC already holds is stored. -/
theorem crcAccumulatorIsIsolated : Obligations.CrcAccumulatorIsIsolated := by
  intro i s
  by_cases hcrc : i.opcode = .crcinit ∨ i.opcode = .crcbyte
  · obtain ⟨v, hv⟩ := exec_crc_command hcrc s
    exact ⟨_, hv, fun hinit hbyte => absurd hcrc (not_or.2 ⟨hinit, hbyte⟩), fun _ => rfl⟩
  · obtain ⟨hinit, hbyte⟩ := not_or.1 hcrc
    obtain ⟨t, ht, hany⟩ := exec_setCrcAcc hinit hbyte s
    have hkept : t = t.setCrcAcc s.crcAcc := Host.Outcome.next.inj (ht.symm.trans (hany s.crcAcc))
    exact ⟨t, ht, fun _ _ => ⟨(congrArg State.crcAcc hkept).trans (setCrcAcc_crcAcc t s.crcAcc), hany⟩,
      fun h => absurd h hcrc⟩

end Sys2Proof.Machine
end

section
/-! The encoder claims (41_encoder.md): the five commands (R123 to R127), the frame they build byte by byte (R121), and the
CRC it ends in (R129). -/

namespace Sys2Proof.Machine

variable {s : State}

/-! ### The header and the start address (R123, R124) -/

/-- Settles O19: the word's row has a 16-bit operand, the slave id above the function code. -/
theorem enchdrCommand : Obligations.EnchdrCommand :=
  ⟨exec_enchdr, fun _ _ _ => step_of_opcode .enchdr 16 (by decide) (by decide) (by decide)⟩

/-- Settles O20: the word's row has a 16-bit operand. -/
theorem encaddrCommand : Obligations.EncaddrCommand :=
  ⟨exec_encaddr, fun _ _ _ => step_of_opcode .encaddr 16 (by decide) (by decide) (by decide)⟩

/-! ### The value list (R126) -/

theorem exec_encval_full_rejected (v : Half) (h : s.valLen.toNat = s.maxRegs) :
    exec (.encval v) s = .next (Rejected 3#8 (encode (.encval v)) s) :=
  (exec_encval_full v h).trans (congrArg Host.Outcome.next (reject_eq _ _ _))

/-- ENCVALs behind a list VAL already holds append their values, as long as all of them fit. -/
theorem execSeq_encval {held : List Half} (hlen : held.length = s.valLen.toNat) (hheld : s.val.Holds held)
    (vals : List Half) (hfit : held.length + vals.length ≤ s.maxRegs) :
    ∃ m len, execSeq (vals.map Instr.encval) s = .next (s.setVal m len) ∧
      len.toNat = held.length + vals.length ∧ m.Holds (held ++ vals) := by
  induction vals generalizing s held with
  | nil => exact ⟨s.val, s.valLen, rfl, hlen.symm, by rwa [List.append_nil]⟩
  | cons v vals ih =>
    rw [List.length_cons] at hfit
    have hroom : s.valLen.toNat < s.maxRegs := by omega
    have hnext := toNat_add_one_of_lt hroom (Nat.le_of_lt_succ s.paramMaxRegs.isLt)
    obtain ⟨m, len, hrun, hcount, hholds⟩ :=
      ih (s := s.setVal (s.val.write s.valLen.toNat v) (s.valLen + 1#16)) (held := held ++ [v])
        (by simp [hlen, hnext]) (hlen ▸ Memory.holds_write_append hheld v)
        (by rw [List.length_append, List.length_singleton, setVal_maxRegs]; omega)
    refine ⟨m, len, (execSeq_cons_of_next (exec_encval_room v hroom.ne) _).trans hrun, ?_, ?_⟩
    · rw [hcount, List.length_append, List.length_singleton, List.length_cons]
      omega
    · simpa using hholds

/-- ENCCLR and then one ENCVAL per value make VAL hold the values, if they fit. -/
theorem execSeq_encclr_encval (s : State) (vals : List Half) (hfit : vals.length ≤ s.maxRegs) :
    ∃ m len, execSeq (.encclr :: vals.map Instr.encval) s = .next (s.setVal m len) ∧
      len.toNat = vals.length ∧ m.Holds vals := by
  obtain ⟨m, len, hrun, hcount, hholds⟩ :=
    execSeq_encval (s := s.setVal s.val 0#16) (held := []) rfl (Memory.holds_nil _) vals (by simpa using hfit)
  exact ⟨m, len, (execSeq_cons_of_next (exec_encclr s) _).trans hrun, by simpa using hcount, hholds⟩

/-- Settles O22: a word that reaches the capacity check has its reserved bits 0, so it is the word of the command that is
rejected. -/
theorem encvalCommand : Obligations.EncvalCommand := by
  refine ⟨fun v s hroom => ?_, fun s w rest hp hop => ?_, fun s vals v hcap => ?_⟩
  · refine ⟨_, exec_encval_room v hroom, rfl, Memory.lookup_write_same _ _ _,
      fun i hi => Memory.lookup_write_ne _ _ hi, fun hinv => ⟨?_, (hinv.appendVal hroom v).valLen_le⟩⟩
    exact toNat_add_one_of_lt (Nat.lt_of_le_of_ne hinv.valLen_le hroom) (Nat.le_of_lt_succ s.paramMaxRegs.isLt)
  · obtain ⟨hlegal, hreserved⟩ := step_of_opcode .encval 16 (by decide) (by decide) (by decide) hp hop
    refine ⟨hreserved, fun hzero hfull => ?_, fun hzero _ => hlegal hzero⟩
    have hmatch := (legal_iff_reserved_zero (op := .encval) 16 (by decide) hop (by decide) (by decide)).2 hzero
    have hword : encode (.encval (halfField w)) = w := encode_instr hmatch
    have hrejected := exec_encval_full_rejected (s := { s with port := rest }) (halfField w) hfull
    rw [hword] at hrejected
    exact (hlegal hzero).trans hrejected
  · obtain ⟨m, len, hrun, hlen, hholds⟩ := execSeq_encclr_encval s vals hcap.le
    have hfull : len.toNat = s.maxRegs := hlen.trans hcap
    exact ⟨_, hrun, hfull, hholds, encode_encval v ▸ exec_encval_full_rejected (s := s.setVal m len) v hfull⟩

/-! ### A payload with its CRC (R121, R129) -/

theorem withCrc_length (p : List Byte) : (withCrc p).length = p.length + 2 := List.length_append

theorem take_withCrc (p : List Byte) : (withCrc p).take p.length = p := List.take_left

theorem withCrc_getD_crc (p : List Byte) (i : Nat) :
    (withCrc p).getD (p.length + i) 0#8 = (littleEndian (crc16 p)).getD i 0#8 := by
  rw [withCrc, List.getD_append_right _ _ _ _ (Nat.le_add_right _ _), Nat.add_sub_cancel_left]

theorem computedCrc_withCrc (p : List Byte) : computedCrc (withCrc p) = crc16 p := by
  rw [computedCrc, withCrc_length, Nat.add_sub_cancel, take_withCrc]

theorem receivedCrc_withCrc (p : List Byte) : receivedCrc (withCrc p) = crc16 p := by
  have hlast : byteAt (withCrc p) (p.length + 1) = hiByte (crc16 p) := withCrc_getD_crc p 1
  have hfirst : byteAt (withCrc p) p.length = loByte (crc16 p) := withCrc_getD_crc p 0
  rw [receivedCrc, withCrc_length, Nat.add_sub_cancel, Nat.add_sub_assoc (by decide), hlast, hfirst, joinBytes_hi_lo]

/-! ### The frame's bytes (R71, R121) -/

theorem encodeFrame_eq_cons (sid fc : Byte) (addr : Half) (vals : List Half) :
    encodeFrame sid fc addr vals =
      sid :: fc :: hiByte addr :: loByte addr :: hiByte (BitVec.ofNat 16 vals.length) ::
        loByte (BitVec.ofNat 16 vals.length) ::
        (vals.flatMap bigEndian ++ littleEndian (crc16 (framePayload sid fc addr vals))) := rfl

/-- Value `j` stands at offset `2 * j` of the value region, more significant byte first, whatever follows the region. -/
theorem getD_flatMap_bigEndian {vals : List Half} {j : Nat} {v : Half} (h : vals[j]? = some v) (after : List Byte) :
    (vals.flatMap bigEndian ++ after).getD (2 * j) 0#8 = hiByte v ∧
      (vals.flatMap bigEndian ++ after).getD (2 * j + 1) 0#8 = loByte v := by
  induction vals generalizing j with
  | nil => simp at h
  | cons u vals ih =>
    cases j with
    | zero =>
      obtain rfl : u = v := by simpa using h
      exact ⟨rfl, rfl⟩
    | succ j => exact ih (by simpa using h)

theorem encodeFrame_getD_value {vals : List Half} {j : Nat} {v : Half} (h : vals[j]? = some v) (sid fc : Byte)
    (addr : Half) :
    (encodeFrame sid fc addr vals).getD (6 + 2 * j) 0#8 = hiByte v ∧
      (encodeFrame sid fc addr vals).getD (7 + 2 * j) 0#8 = loByte v := by
  rw [Nat.add_comm 6, show 7 + 2 * j = 2 * j + 1 + 6 by omega, encodeFrame_eq_cons]
  exact getD_flatMap_bigEndian h _

theorem encodeFrame_getD_crc (sid fc : Byte) (addr : Half) (vals : List Half) :
    (encodeFrame sid fc addr vals).getD (6 + 2 * vals.length) 0#8 = loByte (crc16 (framePayload sid fc addr vals)) ∧
      (encodeFrame sid fc addr vals).getD (7 + 2 * vals.length) 0#8 =
        hiByte (crc16 (framePayload sid fc addr vals)) := by
  have hlen := framePayload_length sid fc addr vals
  rw [← hlen, show 7 + 2 * vals.length = (framePayload sid fc addr vals).length + 1 by omega]
  exact ⟨withCrc_getD_crc _ 0, withCrc_getD_crc _ 1⟩

theorem take_encodeFrame (sid fc : Byte) (addr : Half) (vals : List Half) :
    (encodeFrame sid fc addr vals).take (6 + 2 * vals.length) = framePayload sid fc addr vals := by
  rw [← framePayload_length sid fc addr vals]
  exact take_withCrc _

/-- Settles O23: the header, the values and the CRC, each by the lemma of its part of the frame, the bytes as numbers. -/
theorem encodeFrameLayout : Obligations.EncodeFrameLayout := by
  intro sid fc addr vals hmax
  have hcount : (BitVec.ofNat 16 vals.length).toNat = vals.length :=
    Nat.mod_eq_of_lt (Nat.lt_of_le_of_lt hmax (by decide))
  obtain ⟨hlow, hhigh⟩ := encodeFrame_getD_crc sid fc addr vals
  refine ⟨encodeFrame_length _ _ _ _, rfl, rfl, hiByte_toNat addr, loByte_toNat addr,
    (hiByte_toNat _).trans (by rw [hcount]), (loByte_toNat _).trans (by rw [hcount]), fun j v hj => ?_, ?_, ?_⟩
  · obtain ⟨hhi, hlo⟩ := encodeFrame_getD_value hj sid fc addr
    exact ⟨hhi ▸ hiByte_toNat v, hlo ▸ loByte_toNat v⟩
  · rw [hlow, take_encodeFrame, loByte_toNat]
  · rw [hhigh, take_encodeFrame, hiByte_toNat]

/-! ### ENCGO (R127, R129) -/

/-- A frame's length fits the 16 bits of TX_LEN (00_scope.md R7). -/
theorem frameLength_toNat {k : Nat} (h : k ≤ 32763) : (BitVec.ofNat 16 (8 + 2 * k)).toNat = 8 + 2 * k :=
  Nat.mod_eq_of_lt (by omega)

/-- ENCGO where the VAL entries below VAL_LEN are written: the frame of their values, and no draw. -/
theorem exec_encgo_of_holds {vals : List Half} (hlen : vals.length = s.valLen.toNat) (hheld : s.val.Holds vals) :
    exec .encgo s =
      .next (s.setTx (s.txb.writeSeq 0 (encodeFrame s.encSid s.encFc s.encAddr vals))
        (BitVec.ofNat 16 (8 + 2 * vals.length))) := by
  rw [exec_encgo, encoderValues_of_holds hlen hheld, encodeFrame_length]
  rfl

/-- Writing a sequence again changes nothing. -/
theorem Memory.writeSeq_writeSeq {w cap start : Nat} {m : Memory w} {vs : List (BitVec w)} (hm : m.wf cap = true)
    (hfit : start + vs.length ≤ cap) : (m.writeSeq start vs).writeSeq start vs = m.writeSeq start vs := by
  have hwf := Memory.writeSeq_wf vs hm hfit
  refine Memory.ext_lookup (Memory.writeSeq_wf vs hwf hfit) hwf fun i => ?_
  by_cases hi : start ≤ i ∧ i < start + vs.length
  · simp only [Memory.lookup_writeSeq, if_pos hi]
  · exact Memory.lookup_writeSeq_outside _ hi

/-- Settles O21: with VAL_LEN 0 the values are the empty list, whatever VAL holds. -/
theorem encclrCommand : Obligations.EncclrCommand := by
  refine ⟨exec_encclr, fun _ _ _ => step_of_opcode .encclr 0 (by decide) (by decide) (by decide), fun s => ?_⟩
  have hencgo := exec_encgo_of_holds (s := s.setVal s.val 0#16) (vals := []) rfl (Memory.holds_nil _)
  have hframe := Memory.writeSeq_holds s.txb (encodeFrame s.encSid s.encFc s.encAddr [])
  exact ⟨_, (execSeq_cons_of_next (exec_encclr s) _).trans (execSeq_cons_of_next hencgo []), rfl,
    hframe 4 (by rw [encodeFrame_length]; decide), hframe 5 (by rw [encodeFrame_length]; decide)⟩

/-- Settles O24: a repeated ENCGO has the same inputs, and writes to TXB the frame TXB already holds. -/
theorem encgoCommand : Obligations.EncgoCommand := by
  refine ⟨fun s => ⟨_, exec_encgo s, rfl⟩, fun s vals hlegal hlen hfit hheld => ?_,
    fun _ _ _ => step_of_opcode .encgo 0 (by decide) (by decide) (by decide), fun s hinv => ?_⟩
  · have htxLen := frameLength_toNat (Nat.le_trans hfit hlegal.2)
    refine ⟨_, exec_encgo_of_holds hlen hheld, rfl, htxLen, ?_, Memory.writeSeq_holds _ _, fun i hi => ?_⟩
    · rw [setTx_txLen, htxLen, State.frameMax]
      omega
    · rw [setTx_txLen, htxLen] at hi
      exact Memory.lookup_writeSeq_outside _ (by rw [encodeFrame_length]; omega)
  · obtain ⟨vals, hlen, hheld⟩ := hinv.val_written
    have hfit : 0 + (encodeFrame s.encSid s.encFc s.encAddr vals).length ≤ s.frameMax := by
      have := hinv.valLen_le
      rw [encodeFrame_length, State.frameMax]
      omega
    have hagain (m : Memory 8) (len : Half) := exec_encgo_of_holds (s := s.setTx m len) hlen hheld
    refine ⟨_, exec_encgo_of_holds hlen hheld, (hagain _ _).trans ?_⟩
    exact congrArg (fun m => Host.Outcome.next (s.setTx m _)) (Memory.writeSeq_writeSeq hinv.txb_wf hfit)

/-- Settles O25: the frame in TXB is a payload with its CRC, so its received and its computed CRC are one. -/
theorem encgoLeavesAValidCrc : Obligations.EncgoLeavesAValidCrc := by
  intro s hinv
  obtain ⟨vals, hlen, hheld⟩ := hinv.val_written
  have hframe := encodeFrame_length s.encSid s.encFc s.encAddr vals
  have htxLen := frameLength_toNat (k := vals.length) (by have := hinv.valLen_le; have := hinv.maxRegs_le; omega)
  refine ⟨_, encodeFrame s.encSid s.encFc s.encAddr vals, exec_encgo_of_holds hlen hheld, hframe.trans htxLen.symm,
    by omega, Memory.writeSeq_holds _ _, ?_⟩
  rw [← receivedCrc_toNat]
  exact congrArg BitVec.toNat ((computedCrc_withCrc _).trans (receivedCrc_withCrc _).symm)

end Sys2Proof.Machine
end

section
/-! The decoder claims (42_decoder.md): filling RXB (R141, R142), the fields of a result (R153, R154), DECGO (R155, R156),
the encoder and the decoder as each other's inverses (R158), and the detection of a flipped bit (R159). -/

namespace Sys2Proof.Machine

variable {s : State} {r : List Byte} {lenient : Bool} {i j : Nat}

/-! ### The outcomes of DECODE_FRAME, by its first failing step (R143, R153, R154) -/

/-- No step of DECODE_FRAME fails: the length, the CRC, the value region and, in strict mode, its count (R151). -/
structure ValidFrame (r : List Byte) (lenient : Bool) : Prop where
  long : 8 ≤ r.length
  crc : computedCrc r = receivedCrc r
  even : (r.length - 8) % 2 = 0
  count : lenient = false → (r.length - 8) / 2 = (halfAt r 4).toNat

/-- The result of a decode in which no step fails (R153). -/
def frameFields (r : List Byte) : DecodeResult :=
  { status := .ok, len := r.length, sid := byteAt r 0, fc := byteAt r 1, addr := halfAt r 2, count := halfAt r 4,
    nval := (r.length - 8) / 2, vals := regionValues r ((r.length - 8) / 2), crcCalc := computedCrc r,
    crcRcv := receivedCrc r }

theorem decodeFrame_of_short (hlen : r.length < 8) (lenient : Bool) :
    decodeFrame r lenient = decodeFail .frameTooShort r.length 0#16 0#16 := if_pos hlen

theorem decodeFrame_of_crc_ne (hlen : 8 ≤ r.length) (hcrc : computedCrc r ≠ receivedCrc r) (lenient : Bool) :
    decodeFrame r lenient = decodeFail .crcMismatch r.length (computedCrc r) (receivedCrc r) :=
  (if_neg (Nat.not_lt.2 hlen)).trans (if_pos hcrc)

theorem decodeFrame_of_truncated (hlen : 8 ≤ r.length) (hcrc : computedCrc r = receivedCrc r)
    (h : ¬ ValidFrame r lenient) :
    decodeFrame r lenient = decodeFail .truncatedValues r.length (computedCrc r) (receivedCrc r) := by
  refine (if_neg (Nat.not_lt.2 hlen)).trans ((if_neg (not_not.2 hcrc)).trans ?_)
  by_cases heven : (r.length - 8) % 2 = 0
  · have hcount : lenient = false ∧ (r.length - 8) / 2 ≠ (halfAt r 4).toNat :=
      Classical.not_imp.1 fun hcount => h ⟨hlen, hcrc, heven, hcount⟩
    exact (if_neg (not_not.2 heven)).trans (if_pos hcount)
  · exact if_pos heven

theorem decodeFrame_of_valid (h : ValidFrame r lenient) : decodeFrame r lenient = frameFields r :=
  (if_neg (Nat.not_lt.2 h.long)).trans ((if_neg (not_not.2 h.crc)).trans
    ((if_neg (not_not.2 h.even)).trans (if_neg fun hcount => hcount.2 (h.count hcount.1))))

theorem validFrame_of_ok (h : (decodeFrame r lenient).status = .ok) : ValidFrame r lenient := by
  rcases decodeFrame_shape r lenient with ⟨st, c, v, hst, hd⟩ | ⟨hlong, hcrc, heven, hcount, -⟩
  · rw [hd] at h
    exact absurd h hst
  · exact ⟨hlong, hcrc, heven, hcount⟩

/-- A failing decode of a buffer long enough to have a CRC still reports both CRCs (R154). -/
theorem decodeFrame_eq_decodeFail (hlen : 8 ≤ r.length) (h : (decodeFrame r lenient).status ≠ .ok) :
    ∃ st, decodeFrame r lenient = decodeFail st r.length (computedCrc r) (receivedCrc r) := by
  by_cases hcrc : computedCrc r = receivedCrc r
  · exact ⟨_, decodeFrame_of_truncated hlen hcrc fun hvalid => h (congrArg _ (decodeFrame_of_valid hvalid))⟩
  · exact ⟨_, decodeFrame_of_crc_ne hlen hcrc lenient⟩

theorem regionValues_getElem? {k : Nat} {v : Half} (h : (regionValues r k)[j]? = some v) :
    v = halfAt r (6 + 2 * j) := by
  obtain ⟨hj, hv⟩ := List.getElem?_eq_some_iff.1 h
  simpa [regionValues] using hv.symm

/-- Settles O29: the fields are those of `frameFields`, read as numbers. -/
theorem decodeSuccessFields : Obligations.DecodeSuccessFields := by
  intro r lenient h
  have hvalid := validFrame_of_ok h
  rw [decodeFrame_of_valid hvalid]
  refine ⟨rfl, rfl, rfl, halfAt_toNat r 2, halfAt_toNat r 4, Nat.mul_div_cancel' (Nat.dvd_of_mod_eq_zero hvalid.even),
    regionValues_length _ _, fun j v hv => ?_, rfl, hvalid.crc.symm⟩
  rw [regionValues_getElem? hv, halfAt_toNat]

/-- Settles O30: a short buffer reports no CRC, and any other failure reports both. -/
theorem decodeFailureFields : Obligations.DecodeFailureFields := by
  intro r lenient h
  by_cases hlen : r.length < 8
  · rw [decodeFrame_of_short hlen]
    exact ⟨rfl, rfl, rfl, rfl, rfl, rfl, rfl, fun hlong => absurd hlen (Nat.not_lt.2 hlong), fun _ => ⟨rfl, rfl⟩⟩
  · obtain ⟨st, hd⟩ := decodeFrame_eq_decodeFail (Nat.not_lt.1 hlen) h
    rw [hd]
    exact ⟨rfl, rfl, rfl, rfl, rfl, rfl, rfl, fun _ => ⟨rfl, receivedCrc_toNat r⟩, fun hshort => absurd hshort hlen⟩

/-! ### Filling the receive buffer (R141, R142) -/

theorem State.LegalMaxRegs.frameMax_le (h : s.LegalMaxRegs) : s.frameMax ≤ 65534 := by
  have hmax : s.maxRegs ≤ 32763 := h.2
  unfold State.frameMax
  omega

theorem exec_rxbyte_full_rejected (b : Byte) (h : s.rxLen.toNat = s.frameMax) :
    exec (.rxbyte b) s = .next (Rejected 4#8 (encode (.rxbyte b)) s) :=
  (exec_rxbyte_full b h).trans (congrArg Host.Outcome.next (reject_eq _ _ _))

/-- RXBYTEs behind bytes RXB already holds append theirs, as long as all of them fit. -/
theorem execSeq_rxbyte (hlegal : s.LegalMaxRegs) {held : List Byte} (hlen : held.length = s.rxLen.toNat)
    (hheld : s.rxb.Holds held) (bytes : List Byte) (hfit : held.length + bytes.length ≤ s.frameMax) :
    ∃ m len, execSeq (bytes.map Instr.rxbyte) s = .next (s.setRx m len) ∧
      len.toNat = held.length + bytes.length ∧ m.Holds (held ++ bytes) := by
  induction bytes generalizing s held with
  | nil => exact ⟨s.rxb, s.rxLen, rfl, hlen.symm, by rwa [List.append_nil]⟩
  | cons b bytes ih =>
    rw [List.length_cons] at hfit
    have hroom : s.rxLen.toNat < s.frameMax := by omega
    have hnext := toNat_add_one_of_lt hroom (Nat.le_trans hlegal.frameMax_le (by decide))
    obtain ⟨m, len, hrun, hcount, hholds⟩ :=
      ih (s := s.setRx (s.rxb.write s.rxLen.toNat b) (s.rxLen + 1#16)) (held := held ++ [b]) hlegal
        (by simp [hlen, hnext]) (hlen ▸ Memory.holds_write_append hheld b)
        (by rw [List.length_append, List.length_singleton, setRx_frameMax]; omega)
    refine ⟨m, len, (execSeq_cons_of_next (exec_rxbyte_room b hroom.ne) _).trans hrun, ?_, ?_⟩
    · rw [hcount, List.length_append, List.length_singleton, List.length_cons]
      omega
    · simpa using hholds

/-- RXCLR and then one RXBYTE per byte make RXB hold the bytes, if they fit. -/
theorem execSeq_rxclr_rxbyte (hlegal : s.LegalMaxRegs) (bytes : List Byte) (hfit : bytes.length ≤ s.frameMax) :
    ∃ m len, execSeq (.rxclr :: bytes.map Instr.rxbyte) s = .next (s.setRx m len) ∧
      len.toNat = bytes.length ∧ m.Holds bytes := by
  obtain ⟨m, len, hrun, hcount, hholds⟩ :=
    execSeq_rxbyte (s := s.setRx s.rxb 0#16) (held := []) hlegal rfl (Memory.holds_nil _) bytes (by simpa using hfit)
  exact ⟨m, len, (execSeq_cons_of_next (exec_rxclr s) _).trans hrun, by simpa using hcount, hholds⟩

/-- Every RXBYTE on a full RXB is a counted rejection and changes nothing else. -/
theorem execSeq_rxbyte_full (hfull : s.rxLen.toNat = s.frameMax) (bytes : List Byte) :
    ∃ cause cmd count, execSeq (bytes.map Instr.rxbyte) s = .next (s.setErrors cause cmd count) ∧
      count.toNat = min (s.errCount.toNat + bytes.length) 0xFFFF := by
  induction bytes generalizing s with
  | nil => exact ⟨s.errCause, s.errCmd, s.errCount, rfl, (Nat.min_eq_left (Nat.le_of_lt_succ s.errCount.isLt)).symm⟩
  | cons b bytes ih =>
    obtain ⟨cause, cmd, count, hrun, hcount⟩ := ih (s := reject .rxFull (encode (.rxbyte b)) s) hfull
    refine ⟨cause, cmd, count, (execSeq_cons_of_next (exec_rxbyte_full b hfull) _).trans hrun, ?_⟩
    rw [hcount, reject_errCount_toNat, List.length_cons]
    omega

/-- Settles O27: a word that reaches the capacity check has its reserved bits 0, so it is the word of the command that is
rejected. -/
theorem rxbyteCommand : Obligations.RxbyteCommand := by
  refine ⟨fun b s hroom => ?_, fun s w rest hp hop => ?_, fun s bytes more hlegal hcap => ?_⟩
  · refine ⟨_, exec_rxbyte_room b hroom, rfl, Memory.lookup_write_same _ _ _,
      fun i hi => Memory.lookup_write_ne _ _ hi, fun hinv => ⟨?_, (hinv.appendRx hroom b).rxLen_le⟩⟩
    exact toNat_add_one_of_lt (Nat.lt_of_le_of_ne hinv.rxLen_le hroom) (Nat.le_trans hinv.frameMax_le (by decide))
  · obtain ⟨hlegal, hreserved⟩ := step_of_opcode .rxbyte 8 (by decide) (by decide) (by decide) hp hop
    refine ⟨hreserved, fun hzero hfull => ?_, fun hzero _ => hlegal hzero⟩
    have hmatch := (legal_iff_reserved_zero (op := .rxbyte) 8 (by decide) hop (by decide) (by decide)).2 hzero
    have hword : encode (.rxbyte (byteField w)) = w := encode_instr hmatch
    have hrejected := exec_rxbyte_full_rejected (s := { s with port := rest }) (byteField w) hfull
    rw [hword] at hrejected
    exact (hlegal hzero).trans hrejected
  · obtain ⟨m, len, hrun, hlen, hholds⟩ := execSeq_rxclr_rxbyte hlegal bytes hcap.le
    obtain ⟨cause, cmd, count, hmore, hcount⟩ := execSeq_rxbyte_full (s := s.setRx m len) (hlen.trans hcap) more
    exact ⟨_, _, hrun, hmore, hlen, hholds, rfl, hcount⟩

/-! ### DECGO (R155, R156) -/

/-- DECGO where the RXB entries below RX_LEN are written: the decode of them, and no draw. -/
theorem exec_decgo_of_holds (hlen : r.length = s.rxLen.toNat) (hheld : s.rxb.Holds r) :
    exec .decgo s = .next (s.setDecode (decodeFrame r (lenientBit s.ctrl))) := by
  rw [exec_decgo, decoderBytes_of_holds hlen hheld]
  rfl

/-- Settles O26: with RX_LEN 0 the buffer is the empty list, whatever RXB holds. -/
theorem rxclrCommand : Obligations.RxclrCommand := by
  refine ⟨exec_rxclr, fun _ _ _ => step_of_opcode .rxclr 0 (by decide) (by decide) (by decide), fun s => ?_⟩
  have hdecgo := exec_decgo_of_holds (s := s.setRx s.rxb 0#16) (r := []) rfl (Memory.holds_nil _)
  rw [decodeFrame_of_short (by decide)] at hdecgo
  exact ⟨_, (execSeq_cons_of_next (exec_rxclr s) _).trans (execSeq_cons_of_next hdecgo []), rfl, rfl⟩

/-- The values of a buffer that fits RXB fit DEC_VAL (00_scope.md R7). -/
theorem decodeFrame_nval_le_maxRegs (h : r.length ≤ s.frameMax) (lenient : Bool) :
    (decodeFrame r lenient).nval ≤ s.maxRegs := by
  have hnval := decodeFrame_nval_le r lenient
  unfold State.frameMax at h
  omega

/-- Storing a result again changes nothing. -/
theorem setDecode_setDecode {cap : Nat} {d : DecodeResult} (hwf : s.decVal.wf cap = true) (hfit : d.vals.length ≤ cap) :
    (s.setDecode d).setDecode d = s.setDecode d :=
  congrArg (fun m => { s.setDecode d with decVal := m })
    (Memory.writeSeq_writeSeq hwf ((Nat.zero_add _).trans_le hfit))

/-- Settles O31: DECGO keeps its inputs RXB, RX_LEN and CTRL, so a repeated one stores the same result. -/
theorem decgoCommand : Obligations.DecgoCommand := by
  refine ⟨fun s => ⟨_, exec_decgo s, rfl⟩, fun s r hlen hheld => ?_,
    fun _ _ _ => step_of_opcode .decgo 0 (by decide) (by decide) (by decide), fun s hinv => ?_, ?_⟩
  · have hvals := decodeFrame_vals_length r (lenientBit s.ctrl)
    have hnval := decoderResult_nval_toNat s (lenientBit s.ctrl)
    rw [decoderBytes_of_holds hlen hheld] at hnval
    have hdecLen : BitVec.ofNat 16 (decodeFrame r (lenientBit s.ctrl)).len = s.rxLen := by
      rw [decodeFrame_len, hlen, BitVec.ofNat_toNat, BitVec.setWidth_eq]
    refine ⟨_, exec_decgo_of_holds hlen hheld, ?_, hnval, hvals, Memory.writeSeq_holds _ _,
      fun hfit => decodeFrame_nval_le_maxRegs (hlen.trans_le hfit) _, fun i hi => ?_⟩
    · exact congrArg (fun len => { s.setDecode (decodeFrame r (lenientBit s.ctrl)) with decLen := len }) hdecLen
    · have hlast := hvals.trans_le hi
      exact Memory.lookup_writeSeq_outside _ (by omega)
  · obtain ⟨r, hlen, hheld⟩ := hinv.rxb_written
    have hfit := decodeFrame_nval_le_maxRegs (hlen.trans_le hinv.rxLen_le) (lenientBit s.ctrl)
    rw [← decodeFrame_vals_length] at hfit
    have hagain (d : DecodeResult) := exec_decgo_of_holds (s := s.setDecode d) hlen hheld
    exact ⟨_, exec_decgo_of_holds hlen hheld,
      (hagain _).trans (congrArg Host.Outcome.next (setDecode_setDecode hinv.decVal_wf hfit))⟩
  · -- The frame of V-DEC-9: its count field says 5, and it carries 2 values.
    refine ⟨[0x01#8, 0x03#8, 0x00#8, 0x00#8, 0x00#8, 0x05#8, 0x00#8, 0x01#8, 0x00#8, 0x02#8, 0x29#8, 0x33#8], ?_⟩
    decide +kernel

/-! ### Decoding an encoded frame (R158) -/

theorem regionValues_encodeFrame (sid fc : Byte) (addr : Half) (vals : List Half) :
    regionValues (encodeFrame sid fc addr vals) vals.length = vals := by
  refine List.ext_getElem (regionValues_length _ _) fun j hj hj' => ?_
  obtain ⟨hhi, hlo⟩ := encodeFrame_getD_value (List.getElem?_eq_getElem hj') sid fc addr
  rw [regionValues_getElem? (List.getElem?_eq_getElem hj), halfAt, byteAt, byteAt,
    show 6 + 2 * j + 1 = 7 + 2 * j by omega, hhi, hlo, joinBytes_hi_lo]

theorem decodeFrame_encodeFrame (sid fc : Byte) (addr : Half) (vals : List Half)
    (hmax : vals.length ≤ 32763) (lenient : Bool) :
    decodeFrame (encodeFrame sid fc addr vals) lenient =
      { status := .ok, len := 8 + 2 * vals.length, sid := sid, fc := fc, addr := addr,
        count := BitVec.ofNat 16 vals.length, nval := vals.length, vals := vals,
        crcCalc := crc16 (framePayload sid fc addr vals), crcRcv := crc16 (framePayload sid fc addr vals) } := by
  have hlen := encodeFrame_length sid fc addr vals
  have hregion : ((encodeFrame sid fc addr vals).length - 8) / 2 = vals.length := by omega
  have hcalc : computedCrc (encodeFrame sid fc addr vals) = crc16 (framePayload sid fc addr vals) := computedCrc_withCrc _
  have hrcv : receivedCrc (encodeFrame sid fc addr vals) = crc16 (framePayload sid fc addr vals) := receivedCrc_withCrc _
  have haddr : halfAt (encodeFrame sid fc addr vals) 2 = addr := joinBytes_hi_lo addr
  have hcount : halfAt (encodeFrame sid fc addr vals) 4 = BitVec.ofNat 16 vals.length := joinBytes_hi_lo _
  have hagree : (BitVec.ofNat 16 vals.length).toNat = vals.length := Nat.mod_eq_of_lt (by omega)
  have hvalid : ValidFrame (encodeFrame sid fc addr vals) lenient :=
    ⟨by omega, hcalc.trans hrcv.symm, by omega, fun _ => by rw [hregion, hcount, hagree]⟩
  rw [decodeFrame_of_valid hvalid, frameFields, hregion, regionValues_encodeFrame, hcalc, hrcv, haddr, hcount, hlen]
  rfl

/-- Settles O33: the function by `decodeFrame_encodeFrame`, the commands by what RXCLR and the RXBYTEs leave in RXB. -/
theorem encodeDecodeInverse : Obligations.EncodeDecodeInverse := by
  refine fun sid fc addr vals hmax =>
    ⟨fun lenient => ⟨_, decodeFrame_encodeFrame sid fc addr vals hmax lenient⟩, fun s hlegal hfit => ?_⟩
  have hframe : (encodeFrame sid fc addr vals).length ≤ s.frameMax := by
    rw [encodeFrame_length, State.frameMax]
    omega
  obtain ⟨m, len, hrun, hlen, hholds⟩ := execSeq_rxclr_rxbyte hlegal _ hframe
  have hdecgo := exec_decgo_of_holds (s := s.setRx m len) hlen.symm hholds
  rw [decodeFrame_encodeFrame sid fc addr vals hmax] at hdecgo
  have hcount : (BitVec.ofNat 16 vals.length).toNat = vals.length :=
    Nat.mod_eq_of_lt (Nat.lt_of_le_of_lt hmax (by decide))
  exact ⟨_, (execSeq_append_of_next hrun _).trans (execSeq_cons_of_next hdecgo []), rfl, rfl, rfl, rfl, hcount, hcount,
    Memory.writeSeq_holds _ _⟩

/-! ### Encoding a decoded frame: a buffer put together again from its fields (R143, R151) -/

theorem joinBytes_inj {hi lo hi' lo' : Byte} : joinBytes hi lo = joinBytes hi' lo' ↔ hi = hi' ∧ lo = lo' := by
  constructor
  · intro h
    obtain ⟨hlo, hhi⟩ := eq_joinBytes_iff.1 h
    obtain ⟨hlo', hhi'⟩ := eq_joinBytes_iff.1 (rfl : joinBytes hi lo = _)
    exact ⟨hhi'.trans hhi.symm, hlo'.trans hlo.symm⟩
  · rintro ⟨rfl, rfl⟩
    rfl

theorem bigEndian_joinBytes (hi lo : Byte) : bigEndian (joinBytes hi lo) = [hi, lo] := by
  obtain ⟨hlo, hhi⟩ := eq_joinBytes_iff.1 (rfl : joinBytes hi lo = _)
  rw [bigEndian, ← hlo, ← hhi]

theorem littleEndian_joinBytes (hi lo : Byte) : littleEndian (joinBytes hi lo) = [lo, hi] := by
  obtain ⟨hlo, hhi⟩ := eq_joinBytes_iff.1 (rfl : joinBytes hi lo = _)
  rw [littleEndian, ← hlo, ← hhi]

theorem take_add_two (h : i + 2 ≤ r.length) : r.take (i + 2) = r.take i ++ [byteAt r i, byteAt r (i + 1)] := by
  rw [List.take_succ_eq_append_getElem (show i + 1 < r.length by omega),
    List.take_succ_eq_append_getElem (show i < r.length by omega), byteAt, byteAt,
    List.getD_eq_getElem _ _ (show i < r.length by omega), List.getD_eq_getElem _ _ (show i + 1 < r.length by omega), List.append_assoc]
  rfl

theorem take_add_half (h : i + 2 ≤ r.length) : r.take (i + 2) = r.take i ++ bigEndian (halfAt r i) := by
  rw [take_add_two h, halfAt, bigEndian_joinBytes]

/-- The bytes before and in a value region of `k` values are the six of the header and the values' own. -/
theorem take_region {k : Nat} (h : 6 + 2 * k ≤ r.length) :
    r.take (6 + 2 * k) = r.take 6 ++ (regionValues r k).flatMap bigEndian := by
  induction k with
  | zero => simp [regionValues]
  | succ k ih =>
    have hvalues : regionValues r (k + 1) = regionValues r k ++ [halfAt r (6 + 2 * k)] := by
      rw [regionValues, List.range_succ, List.map_append]
      rfl
    rw [show 6 + 2 * (k + 1) = 6 + 2 * k + 2 by omega, take_add_half (by omega), ih (by omega), hvalues,
      List.flatMap_append, List.flatMap_singleton, List.append_assoc]

/-- The payload of the fields a buffer's bytes give is those bytes, if the count field tells the number of values. -/
theorem framePayload_fields {k : Nat} (hlen : 6 + 2 * k ≤ r.length) (hcount : (halfAt r 4).toNat = k) :
    framePayload (byteAt r 0) (byteAt r 1) (halfAt r 2) (regionValues r k) = r.take (6 + 2 * k) := by
  rw [take_region hlen, take_add_half (i := 4) (by omega), take_add_half (i := 2) (by omega),
    take_add_two (i := 0) (by omega), framePayload, regionValues_length, ← hcount, BitVec.ofNat_toNat, BitVec.setWidth_eq]
  rfl

/-- A buffer whose two CRCs agree is its payload with the payload's CRC. -/
theorem withCrc_take (hlen : 2 ≤ r.length) (hcrc : computedCrc r = receivedCrc r) :
    withCrc (r.take (r.length - 2)) = r := by
  have hlast := take_add_two (r := r) (i := r.length - 2) (by omega)
  rw [Nat.sub_add_cancel hlen, List.take_length, show r.length - 2 + 1 = r.length - 1 by omega] at hlast
  have hcrc' : crc16 (r.take (r.length - 2)) = receivedCrc r := hcrc
  rw [withCrc, hcrc', receivedCrc, littleEndian_joinBytes]
  exact hlast.symm

/-- Settles O35: the fields rebuild the payload, and the received CRC is the payload's. -/
theorem strictDecodeIsInjective : Obligations.StrictDecodeIsInjective := by
  intro r h
  have hvalid := validFrame_of_ok h
  have hlong := hvalid.long
  have heven := hvalid.even
  have hpayload := framePayload_fields (r := r) (k := (r.length - 8) / 2) (by omega) (hvalid.count rfl).symm
  rw [show 6 + 2 * ((r.length - 8) / 2) = r.length - 2 by omega] at hpayload
  rw [decodeFrame_of_valid hvalid]
  exact (congrArg withCrc hpayload).trans (withCrc_take (by omega) hvalid.crc)

/-! ### A flipped bit (R159) -/

theorem crcStep_injective_acc (b : Byte) : Function.Injective fun acc => crcStep acc b := by
  intro acc acc' h
  exact (BitVec.xor_left_inj _).1 (crcRounds_injective 8 h)

theorem crcStep_injective_byte (acc : Half) : Function.Injective (crcStep acc) := by
  intro b b' h
  have hbytes := (BitVec.xor_right_inj _).1 (crcRounds_injective 8 h)
  rw [setWidth_eq_joinBytes, setWidth_eq_joinBytes] at hbytes
  exact (joinBytes_inj.1 hbytes).2

theorem foldl_crcStep_injective (bytes : List Byte) : Function.Injective fun acc => bytes.foldl crcStep acc := by
  induction bytes with
  | nil => exact fun _ _ h => h
  | cons b bytes ih => exact ih.comp (crcStep_injective_acc b)

/-- Changing one byte changes the CRC: from there on the accumulators differ. -/
theorem crc16_ne_of_byte_ne {b b' : Byte} (h : b ≠ b') (before after : List Byte) :
    crc16 (before ++ b :: after) ≠ crc16 (before ++ b' :: after) := by
  rw [crc16_append, crc16_append]
  exact fun heq => h (crcStep_injective_byte _ (foldl_crcStep_injective after heq))

theorem xor_bit_ne (b : Byte) (hj : j < 8) : b ^^^ (1#8 <<< j) ≠ b := by
  intro h
  have hbit := congrArg (BitVec.getLsbD · j) h
  simp [hj] at hbit

theorem length_flipBit (r : List Byte) (i j : Nat) : (flipBit r i j).length = r.length := List.length_modify _ _ _

theorem byteAt_flipBit_same (hi : i < r.length) (j : Nat) : byteAt (flipBit r i j) i = byteAt r i ^^^ (1#8 <<< j) := by
  simp [byteAt, flipBit, hi]

theorem byteAt_flipBit_ne {k : Nat} (h : i ≠ k) (r : List Byte) (j : Nat) : byteAt (flipBit r i j) k = byteAt r k := by
  simp [byteAt, flipBit, h]

theorem crc16_flipBit_ne (hi : i < r.length) (hj : j < 8) : crc16 (flipBit r i j) ≠ crc16 r := by
  have hflip : flipBit r i j = r.take i ++ (r[i] ^^^ (1#8 <<< j)) :: r.drop (i + 1) := List.modify_eq_take_cons_drop hi
  have hr : r.take i ++ r[i] :: r.drop (i + 1) = r := by rw [← List.drop_eq_getElem_cons hi, List.take_append_drop]
  rw [hflip]
  exact fun h => crc16_ne_of_byte_ne (xor_bit_ne r[i] hj) _ _ (h.trans (congrArg crc16 hr.symm))

theorem computedCrc_flipBit (r : List Byte) (i j : Nat) :
    computedCrc (flipBit r i j) = crc16 (flipBit (r.take (r.length - 2)) i j) := by
  rw [computedCrc, length_flipBit, flipBit, List.take_modify, flipBit]

/-- A flipped payload bit changes the computed CRC. -/
theorem computedCrc_flipBit_ne (hi : i + 2 < r.length) (hj : j < 8) : computedCrc (flipBit r i j) ≠ computedCrc r := by
  rw [computedCrc_flipBit]
  exact crc16_flipBit_ne (by rw [List.length_take]; omega) hj

/-- A flipped CRC bit does not. -/
theorem computedCrc_flipBit_eq (hi : r.length ≤ i + 2) (j : Nat) : computedCrc (flipBit r i j) = computedCrc r := by
  rw [computedCrc_flipBit, flipBit, List.modify_eq_self (by rw [List.length_take]; omega), computedCrc]

/-- A flipped payload bit leaves the received CRC. -/
theorem receivedCrc_flipBit_eq (hi : i + 2 < r.length) (j : Nat) : receivedCrc (flipBit r i j) = receivedCrc r := by
  rw [receivedCrc, length_flipBit, byteAt_flipBit_ne (by omega), byteAt_flipBit_ne (by omega), receivedCrc]

/-- A flipped CRC bit changes one of the two bytes it is read from. -/
theorem receivedCrc_flipBit_ne (hi : i < r.length) (hcrc : r.length ≤ i + 2) (hj : j < 8) :
    receivedCrc (flipBit r i j) ≠ receivedCrc r := by
  intro h
  rw [receivedCrc, receivedCrc, joinBytes_inj, length_flipBit] at h
  obtain ⟨hhi, hlo⟩ := h
  have hbyte : byteAt (flipBit r i j) i = byteAt r i := by
    obtain hlast | hfirst : r.length - 1 = i ∨ r.length - 2 = i := by omega
    · rwa [hlast] at hhi
    · rwa [hfirst] at hlo
  exact xor_bit_ne _ hj ((byteAt_flipBit_same hi j).symm.trans hbyte)

/-- Settles O34: exactly one of the two CRCs, which agreed, changes. -/
theorem singleBitFlipIsDetected : Obligations.SingleBitFlipIsDetected := by
  intro r lenient hok i j hi hj
  obtain ⟨hlen, hagree, -, -⟩ := validFrame_of_ok hok
  have hcrc : computedCrc (flipBit r i j) ≠ receivedCrc (flipBit r i j) := by
    by_cases hpayload : i + 2 < r.length
    · rw [receivedCrc_flipBit_eq hpayload, ← hagree]
      exact computedCrc_flipBit_ne hpayload hj
    · rw [computedCrc_flipBit_eq (Nat.not_lt.1 hpayload), hagree]
      exact (receivedCrc_flipBit_ne hi (Nat.not_lt.1 hpayload) hj).symm
  have hmismatch := decodeFrame_of_crc_ne ((length_flipBit r i j).symm ▸ hlen) hcrc
  have htake : crc16 ((flipBit r i j).take (r.length - 2)) = computedCrc (flipBit r i j) := by
    rw [computedCrc, length_flipBit]
  refine ⟨fun mode => by rw [hmismatch]; rfl, fun hpayload => ⟨?_, ?_⟩, fun htail => ⟨?_, ?_⟩, fun s hrx hheld => ?_⟩
  · rw [← receivedCrc_toNat, receivedCrc_flipBit_eq hpayload, receivedCrc_toNat]
  · rw [htake]
    exact computedCrc_flipBit_ne hpayload hj
  · rw [← receivedCrc_toNat, ← receivedCrc_toNat]
    exact fun h => receivedCrc_flipBit_ne hi htail hj (BitVec.eq_of_toNat_eq h)
  · rw [htake]
    exact computedCrc_flipBit_eq htail j
  · refine ⟨_, exec_decgo_of_holds ((length_flipBit r i j).trans hrx.symm) hheld, ?_⟩
    rw [hmismatch]
    rfl

end Sys2Proof.Machine
end

section
/-! The control claims (43_control.md): SETCTRL (R170) and ERRCLR (R171). -/

namespace Sys2Proof.Machine

variable {half : Half}

/-! ### The operand of SETCTRL (R170) -/

/-- Bits 15:1 of an operand are clear when it is 0 or 1. -/
theorem ushiftRight_one_eq_zero_iff : half >>> 1 = 0#16 ↔ half.toNat ≤ 1 := by
  rw [← BitVec.toNat_inj, BitVec.toNat_ushiftRight, Nat.shiftRight_eq_div_pow, BitVec.toNat_ofNat]
  omega

theorem ctrlOfHalf_of_le_one (h : half.toNat ≤ 1) : ctrlOfHalf half = half := by
  apply BitVec.eq_of_toNat_eq
  rw [ctrlOfHalf, BitVec.toNat_setWidth, BitVec.extractLsb'_toNat, Nat.shiftRight_zero]
  omega

/-- Bit 0 of HALF is bit 0 of its word. -/
theorem ctrlOfHalf_halfField (w : Word) : ctrlOfHalf (halfField w) = (w.extractLsb' 0 1).setWidth 16 := by
  rw [ctrlOfHalf, halfField, BitVec.extractLsb'_extractLsb'_of_le (by decide)]

/-! ### The commands (R170, R171) -/

/-- Settles O36: the operand of a legal word has no bit of 15:1 set, so the rejection inside `exec` is not reached from a
word that decodes. -/
theorem setctrlCommand : Obligations.SetctrlCommand := by
  refine ⟨fun half s hle => ?_, fun half s hgt => ?_, fun s w rest hp hop => ?_⟩
  · rw [exec_setctrl_legal (ushiftRight_one_eq_zero_iff.2 hle), ctrlOfHalf_of_le_one hle]
    rfl
  · have hreserved : half >>> 1 ≠ 0#16 := mt ushiftRight_one_eq_zero_iff.1 hgt.not_ge
    rw [exec_setctrl_reserved hreserved, reject_eq, encode_setctrl]
    rfl
  · obtain ⟨hlegal, hreserved⟩ := step_of_opcode .setctrl 1 (by decide) (by decide) (by decide) hp hop
    refine ⟨fun hzero => ?_, hreserved⟩
    have hmatch := (legal_iff_reserved_zero (op := .setctrl) 1 (by decide) hop (by decide) (by decide)).2 hzero
    have hoperand : halfField w >>> 1 = 0#16 := eq_of_beq (instr_wellFormed (op := .setctrl) hop hmatch)
    calc step s = exec (.setctrl (halfField w)) (s.setPort rest) := hlegal hzero
      _ = .next ((s.setPort rest).setCtrl (ctrlOfHalf (halfField w))) :=
        exec_setctrl_legal hoperand _
      _ = .next { s with port := rest, ctrl := (w.extractLsb' 0 1).setWidth 16 } := by
        rw [ctrlOfHalf_halfField]; rfl

/-- Settles O37: the word's row is ERRCLR's, which has no operand. -/
theorem errclrCommand : Obligations.ErrclrCommand :=
  ⟨exec_errclr, fun _ _ _ => step_of_opcode .errclr 0 (by decide) (by decide) (by decide)⟩

end Sys2Proof.Machine
end

section
/-! The exception claims (60_exceptions.md): which words are rejected and with which cause (R203 to R207), what any
number of rejections leaves (R201, R213), that a step never stops (R200), and the order of the decode failures (R208). -/

namespace Sys2Proof.Machine

variable {s t : State} {i : Instr} {w : Word} {rest : List HostItem} {b : Byte} {op : Opcode}

/-! ### The defined opcodes and the reserved bits of a word (30_encoding.md R62 to R67) -/

theorem mem_definedOpcodes_iff : b ∈ definedOpcodes ↔ ∃ op : Opcode, op.byte = b := by
  constructor
  · intro h
    obtain ⟨op, -, hop⟩ := List.mem_map.1 (show b ∈ Opcode.all.map Opcode.byte from h)
    exact ⟨op, hop⟩
  · rintro ⟨op, rfl⟩
    cases op <;> decide

theorem not_mem_definedOpcodes_iff : b ∉ definedOpcodes ↔ ∀ op : Opcode, op.byte ≠ b :=
  (not_congr mem_definedOpcodes_iff).trans not_exists

theorem byte_injective : Function.Injective Opcode.byte := fun _ _ h =>
  Option.some.inj ((ofByte_eq_some.2 h).symm.trans (ofByte_eq_some.2 rfl))

theorem opcodeOf_eq_byte_iff (hop : opField w = op.byte) (op' : Opcode) : opcodeOf w = op'.byte ↔ op = op' := by
  rw [show opcodeOf w = op.byte from hop]
  exact byte_injective.eq_iff

theorem opcode_instr (op : Opcode) (w : Word) : (op.instr w).opcode = op := by cases op <;> rfl

/-- How many low bits of a row's word are its operand: the bits its mask leaves free (30_encoding.md R67). -/
def operandBits : Opcode → Nat
  | .crcinit | .encclr | .encgo | .rxclr | .decgo | .errclr => 0
  | .setctrl => 1
  | .crcbyte | .rxbyte => 8
  | .enchdr | .encaddr | .encval => 16

theorem legal_iff_operandBits (hop : opField w = op.byte) :
    w &&& op.mask = op.matchWord ↔ w.extractLsb' (operandBits op) (24 - operandBits op) = 0#_ :=
  legal_iff_reserved_zero (operandBits op) (by cases op <;> decide) hop (by cases op <;> decide)
    (by cases op <;> decide)

/-- The reserved bits of a format are those above its operand and below the opcode. -/
theorem reservedBitSet_iff_operandBits (hop : opField w = op.byte) :
    ReservedBitSet w ↔ w.extractLsb' (operandBits op) (24 - operandBits op) ≠ 0#_ := by
  have hop' : opcodeOf w = op.byte := hop
  unfold ReservedBitSet
  rw [hop']
  cases op <;> simp [formatN, formatB, formatHP, Opcode.byte, operandBits]

theorem reservedBitSet_iff_not_legal (hop : opField w = op.byte) :
    ReservedBitSet w ↔ w &&& op.mask ≠ op.matchWord :=
  (reservedBitSet_iff_operandBits hop).trans (not_congr (legal_iff_operandBits hop)).symm

/-- Only a defined opcode has a format, and so reserved bits. -/
theorem opcode_of_reservedBitSet (h : ReservedBitSet w) : ∃ op : Opcode, opField w = op.byte := by
  have hdefined : opcodeOf w ∈ definedOpcodes := by
    rcases h with ⟨hN, -⟩ | ⟨hB, -⟩ | ⟨hHP, -⟩ | ⟨hctrl, -⟩
    · exact (show formatN ⊆ definedOpcodes by decide) hN
    · exact (show formatB ⊆ definedOpcodes by decide) hB
    · exact (show formatHP ⊆ definedOpcodes by decide) hHP
    · rw [hctrl]
      decide
  obtain ⟨op, hop⟩ := mem_definedOpcodes_iff.1 hdefined
  exact ⟨op, hop.symm⟩

/-! ### The two rejections by the decoder (R203, R204) -/

theorem decode_eq_illegalOpcode_iff : decode w = .error .illegalOpcode ↔ opcodeOf w ∉ definedOpcodes := by
  rw [not_mem_definedOpcodes_iff]
  refine ⟨fun h => ?_, decode_of_undefined⟩
  obtain ⟨hundefined, -⟩ | ⟨op, -, ⟨-, herr⟩ | ⟨-, hok⟩⟩ := decode_cases w
  · exact hundefined
  · exact nomatch h.symm.trans herr
  · exact nomatch h.symm.trans hok

theorem decode_eq_reservedNonzero_iff : decode w = .error .reservedNonzero ↔ ReservedBitSet w := by
  constructor
  · intro h
    obtain ⟨-, herr⟩ | ⟨op, hop, ⟨hreserved, -⟩ | ⟨-, hok⟩⟩ := decode_cases w
    · exact nomatch h.symm.trans herr
    · exact (reservedBitSet_iff_not_legal hop).2 hreserved
    · exact nomatch h.symm.trans hok
  · intro h
    obtain ⟨op, hop⟩ := opcode_of_reservedBitSet h
    exact decode_of_reserved op hop ((reservedBitSet_iff_not_legal hop).1 h)

theorem step_of_illegalOpcode (hp : s.Presents w rest) (h : opcodeOf w ∉ definedOpcodes) :
    step s = .next (Rejected 1#8 w { s with port := rest }) :=
  step_of_undefined hp (not_mem_definedOpcodes_iff.1 h)

theorem step_of_reservedBitSet (hp : s.Presents w rest) (h : ReservedBitSet w) :
    step s = .next (Rejected 2#8 w { s with port := rest }) := by
  obtain ⟨op, hop⟩ := opcode_of_reservedBitSet h
  exact step_of_reserved op hp hop ((reservedBitSet_iff_not_legal hop).1 h)

/-- Below 256 the defined opcodes are the twelve listed ones. -/
theorem filter_defined_perm :
    ((List.range 256).filter fun n => decide (BitVec.ofNat 8 n ∈ definedOpcodes)).Perm
      (definedOpcodes.map BitVec.toNat) := by
  refine (List.perm_ext_iff_of_nodup (List.nodup_range.filter _) (by decide)).2 fun n => ?_
  rw [List.mem_filter, List.mem_range, decide_eq_true_iff, List.mem_map]
  constructor
  · rintro ⟨hn, hdefined⟩
    exact ⟨_, hdefined, (BitVec.toNat_ofNat n 8).trans (Nat.mod_eq_of_lt hn)⟩
  · rintro ⟨b, hb, rfl⟩
    exact ⟨b.isLt, by rwa [BitVec.ofNat_toNat, BitVec.setWidth_eq]⟩

theorem undefined_opcodes_length :
    ((List.range 256).filter fun n => decide (BitVec.ofNat 8 n ∉ definedOpcodes)).length = 244 := by
  have hsplit := (List.range 256).length_eq_length_filter_add fun n => decide (BitVec.ofNat 8 n ∈ definedOpcodes)
  have hdefined : definedOpcodes.length = 12 := rfl
  simp only [← decide_not, filter_defined_perm.length_eq, List.length_range, List.length_map] at hsplit
  omega

/-- Settles O8: the decoder finds no row exactly for the opcodes that are no row's. -/
theorem illegalOpcodeIsRejected : Obligations.IllegalOpcodeIsRejected :=
  ⟨fun _ => decode_eq_illegalOpcode_iff, fun _ _ _ => step_of_illegalOpcode,
    undefined_opcodes_length, by decide⟩

/-- Settles O9: a word fails its row's mask exactly when a bit its format reserves is set. -/
theorem reservedBitIsRejected : Obligations.ReservedBitIsRejected :=
  ⟨fun _ => decode_eq_reservedNonzero_iff, fun _ _ _ => step_of_reservedBitSet⟩

/-! ### Commands that are rejected after decoding, and all others (R205 to R207) -/

/-- The commands that are themselves rejected, and with which cause: ENCVAL on a full VAL (R205), RXBYTE on a full RXB
(R206), and the operands of SETCTRL that no legal word has (log entry 8). -/
inductive Rejects (s : State) : Instr → RejectCause → Prop where
  | encval (v : Half) (hfull : s.valLen.toNat = s.maxRegs) : Rejects s (.encval v) .valFull
  | rxbyte (b : Byte) (hfull : s.rxLen.toNat = s.frameMax) : Rejects s (.rxbyte b) .rxFull
  | setctrl (half : Half) (hreserved : half >>> 1 ≠ 0#16) : Rejects s (.setctrl half) .reservedNonzero

theorem exec_of_rejects {c : RejectCause} (h : Rejects s i c) : exec i s = .next (reject c (encode i) s) := by
  cases h with
  | encval v hfull => exact exec_encval_full v hfull
  | rxbyte b hfull => exact exec_rxbyte_full b hfull
  | setctrl half hreserved => exact exec_setctrl_reserved hreserved s

/-- A command is rejected, or it is ERRCLR, or it leaves the error registers and MAX_REGS alone. -/
theorem exec_errors_cases (i : Instr) (s : State) :
    (∃ c, Rejects s i c) ∨ i = .errclr ∨
    ∃ t, exec i s = .next t ∧ t.paramMaxRegs = s.paramMaxRegs ∧
      t.errCause = s.errCause ∧ t.errCmd = s.errCmd ∧ t.errCount = s.errCount := by
  cases i with
  | encval v =>
    by_cases hfull : s.valLen.toNat = s.maxRegs
    · exact .inl ⟨_, .encval v hfull⟩
    · exact .inr (.inr ⟨_, exec_encval_room v hfull, rfl, rfl, rfl, rfl⟩)
  | rxbyte b =>
    by_cases hfull : s.rxLen.toNat = s.frameMax
    · exact .inl ⟨_, .rxbyte b hfull⟩
    · exact .inr (.inr ⟨_, exec_rxbyte_room b hfull, rfl, rfl, rfl, rfl⟩)
  | setctrl half =>
    by_cases hlegal : half >>> 1 = 0#16
    · exact .inr (.inr ⟨_, exec_setctrl_legal hlegal s, rfl, rfl, rfl, rfl⟩)
    · exact .inl ⟨_, .setctrl half hlegal⟩
  | errclr => exact .inr (.inl rfl)
  | _ => exact .inr (.inr ⟨_, rfl, rfl, rfl, rfl, rfl⟩)

/-- A legal word whose command is rejected is the word that is recorded (log entry 7). -/
theorem step_of_rejects {c : RejectCause} (hp : s.Presents w rest) (hop : opField w = op.byte)
    (hlegal : w &&& op.mask = op.matchWord) (h : Rejects (s.setPort rest) (op.instr w) c) :
    step s = .next (Rejected (causeCode c) w { s with port := rest }) := by
  have hexec := exec_of_rejects h
  rw [encode_instr hlegal, reject_eq] at hexec
  exact (step_of_legal op hp hop hlegal).trans hexec

/-- A legal word whose command is neither rejected nor ERRCLR leaves the error registers alone. -/
theorem step_keeps_errors (hp : s.Presents w rest) (hop : opField w = op.byte) (hlegal : w &&& op.mask = op.matchWord)
    (hroom : ∀ c, ¬ Rejects (s.setPort rest) (op.instr w) c) (hclr : op ≠ .errclr) :
    ∃ t, step s = .next t ∧ t.errCause = s.errCause ∧ t.errCmd = s.errCmd ∧ t.errCount = s.errCount := by
  obtain ⟨c, hc⟩ | herrclr | ⟨t, ht, -, hkept⟩ := exec_errors_cases (op.instr w) (s.setPort rest)
  · exact absurd hc (hroom c)
  · exact absurd ((opcode_instr op w).symm.trans (congrArg Instr.opcode herrclr)) hclr
  · exact ⟨t, (step_of_legal op hp hop hlegal).trans ht, hkept⟩

/-- A legal word's command is rejected only for want of room. -/
theorem full_of_rejects {c : RejectCause} (hop : opField w = op.byte) (hlegal : w &&& op.mask = op.matchWord)
    (h : Rejects s (op.instr w) c) :
    (op = .encval ∧ s.valLen.toNat = s.maxRegs) ∨ (op = .rxbyte ∧ s.rxLen.toNat = s.frameMax) := by
  have hwf : (op.instr w).wellFormed = true := instr_wellFormed hop hlegal
  cases op with
  | encval =>
    cases h with | encval _ hfull => exact .inl ⟨rfl, hfull⟩
  | rxbyte =>
    cases h with | rxbyte _ hfull => exact .inr ⟨rfl, hfull⟩
  | setctrl =>
    cases h with | setctrl _ hreserved => exact absurd (eq_of_beq hwf) hreserved
  | _ => cases h

/-- Settles O10: a word that passes the decoder is legal, so only a full buffer can stop its command. -/
theorem rejectionPriority : Obligations.RejectionPriority := by
  intro s w rest hp
  refine ⟨step_of_illegalOpcode hp, fun _ => step_of_reservedBitSet hp, fun hdefined hclear => ?_⟩
  obtain ⟨op, hbyte⟩ := mem_definedOpcodes_iff.1 hdefined
  have hop : opField w = op.byte := hbyte.symm
  have hlegal : w &&& op.mask = op.matchWord := not_not.1 (mt (reservedBitSet_iff_not_legal hop).2 hclear)
  refine ⟨fun hval hfull => ?_, fun hrx hfull => ?_, fun hval hrx => ?_⟩
  · cases (opcodeOf_eq_byte_iff hop .encval).1 hval
    exact step_of_rejects hp hop hlegal (.encval _ hfull)
  · cases (opcodeOf_eq_byte_iff hop .rxbyte).1 hrx
    exact step_of_rejects hp hop hlegal (.rxbyte _ hfull)
  · by_cases hclr : op = .errclr
    · subst hclr
      exact ⟨_, step_of_legal .errclr hp hop hlegal, fun _ => ⟨rfl, rfl, rfl⟩, fun h => absurd hbyte.symm h⟩
    · have hroom : ∀ c, ¬ Rejects (s.setPort rest) (op.instr w) c := by
        intro c hc
        obtain ⟨rfl, hfull⟩ | ⟨rfl, hfull⟩ := full_of_rejects hop hlegal hc
        · exact hval ⟨hbyte.symm, hfull⟩
        · exact hrx ⟨hbyte.symm, hfull⟩
      obtain ⟨t, ht, hkept⟩ := step_keeps_errors hp hop hlegal hroom hclr
      exact ⟨t, ht, fun h => absurd ((opcodeOf_eq_byte_iff hop .errclr).1 h) hclr, fun _ => hkept⟩

/-! ### Any number of rejections (R201, 10_state.md R17) -/

/-- The state after a list of rejections, first one first. -/
def rejectAll (l : List (RejectCause × Word)) (s : State) : State := l.foldl (fun s p => reject p.1 p.2 s) s

theorem rejectAll_cons (p : RejectCause × Word) (l : List (RejectCause × Word)) (s : State) :
    rejectAll (p :: l) s = rejectAll l (reject p.1 p.2 s) := rfl

/-- Rejections store to the error registers and to nothing else. -/
theorem rejectAll_frame (l : List (RejectCause × Word)) (s : State) :
    rejectAll l s =
      s.setErrors (rejectAll l s).errCause (rejectAll l s).errCmd (rejectAll l s).errCount := by
  induction l generalizing s with
  | nil => rfl
  | cons p l ih => exact ih (reject p.1 p.2 s)

theorem rejectAll_errCount_toNat (l : List (RejectCause × Word)) (s : State) :
    (rejectAll l s).errCount.toNat = min (s.errCount.toNat + l.length) 0xFFFF := by
  induction l generalizing s with
  | nil => exact (Nat.min_eq_left (Nat.le_of_lt_succ s.errCount.isLt)).symm
  | cons p l ih =>
    rw [rejectAll_cons, ih, reject_errCount_toNat, List.length_cons]
    omega

theorem reject_of_recorded (h : s.errCause ≠ 0#8) (c : RejectCause) (w : Word) :
    (reject c w s).errCause = s.errCause ∧ (reject c w s).errCmd = s.errCmd := ⟨if_neg h, if_neg h⟩

theorem reject_of_clear (h : s.errCause = 0#8) (c : RejectCause) (w : Word) :
    (reject c w s).errCause = causeCode c ∧ (reject c w s).errCmd = w := ⟨if_pos h, if_pos h⟩

theorem rejectAll_of_recorded (h : s.errCause ≠ 0#8) (l : List (RejectCause × Word)) :
    (rejectAll l s).errCause = s.errCause ∧ (rejectAll l s).errCmd = s.errCmd := by
  induction l generalizing s with
  | nil => exact ⟨rfl, rfl⟩
  | cons p l ih =>
    obtain ⟨hcause, hcmd⟩ := ih (reject_errCause_ne_zero p.1 p.2 s)
    obtain ⟨hcauseFirst, hcmdFirst⟩ := reject_of_recorded h p.1 p.2
    exact ⟨hcause.trans hcauseFirst, hcmd.trans hcmdFirst⟩

/-- Settles O11: the first rejection makes a record if there is none, and every later one finds one. -/
theorem rejectionsAccumulate : Obligations.RejectionsAccumulate := by
  intro l s
  refine ⟨rejectAll_frame l s, rejectAll_errCount_toNat l s, fun h => rejectAll_of_recorded h l, ?_⟩
  rintro hclear c w l' rfl
  obtain ⟨hcause, hcmd⟩ := rejectAll_of_recorded (reject_errCause_ne_zero c w s) l'
  obtain ⟨hcauseFirst, hcmdFirst⟩ := reject_of_clear hclear c w
  exact ⟨hcause.trans hcauseFirst, hcmd.trans hcmdFirst⟩

/-! ### An error record is kept (R213) -/

/-- `t` has the error record of `s`, and counts no fewer rejections. -/
def KeepsRecord (s t : State) : Prop :=
  t.errCause = s.errCause ∧ t.errCmd = s.errCmd ∧ s.errCount.toNat ≤ t.errCount.toNat

theorem reject_keepsRecord (h : s.errCause ≠ 0#8) (c : RejectCause) (w : Word) : KeepsRecord s (reject c w s) := by
  obtain ⟨hcause, hcmd⟩ := reject_of_recorded h c w
  refine ⟨hcause, hcmd, ?_⟩
  have hcount := s.errCount.isLt
  rw [reject_errCount_toNat]
  omega

theorem exec_keepsRecord (h : s.errCause ≠ 0#8) (hclr : i ≠ .errclr) :
    ∃ t, exec i s = .next t ∧ KeepsRecord s t := by
  obtain ⟨c, hc⟩ | herrclr | ⟨t, ht, -, hcause, hcmd, hcount⟩ := exec_errors_cases i s
  · exact ⟨_, exec_of_rejects hc, reject_keepsRecord h c _⟩
  · exact absurd herrclr hclr
  · exact ⟨t, ht, hcause, hcmd, hcount ▸ le_rfl⟩

theorem runItem_keepsRecord {item : HostItem} (h : s.errCause ≠ 0#8) (hreset : item ≠ .reset)
    (hclr : item ≠ .command 0x31000000#32) : ∃ t, runItem item s = .next t ∧ KeepsRecord s t := by
  cases item with
  | command w =>
    cases hd : decode w with
    | ok i =>
      have hi : i ≠ .errclr := by
        rintro rfl
        exact hclr (congrArg HostItem.command (encodeOfDecodeIsIdentity w _ hd).1.symm)
      obtain ⟨t, ht, hkept⟩ := exec_keepsRecord h hi
      exact ⟨t, (runCommand_of_ok hd s).trans ht, hkept⟩
    | error c => exact ⟨_, (runCommand_of_error hd s).trans (congrArg _ (reject_eq c w s).symm), reject_keepsRecord h c w⟩
  | read a => exact ⟨_, rfl, rfl, rfl, le_rfl⟩
  | reset => exact absurd rfl hreset

/-- Settles O12: the one word that decodes to ERRCLR is shut out, and taking the item leaves the error registers alone. -/
theorem errorRecordIsSticky : Obligations.ErrorRecordIsSticky := by
  intro s item rest hp h hreset hclr
  rw [step_of_port_cons hp]
  exact runItem_keepsRecord (s := s.setPort rest) h hreset hclr

/-! ### No step stops (R200) -/

theorem runItem_port {item : HostItem} (h : runItem item s = .next t) : t.port = s.port := by
  have hsame : t = t.setPort s.port := Host.Outcome.next.inj (h.symm.trans (runItem_setPort h s.port))
  exact (congrArg State.port hsame).trans (setPort_port t s.port)

theorem exec_maxRegs (i : Instr) (s : State) : ∃ t, exec i s = .next t ∧ t.paramMaxRegs = s.paramMaxRegs := by
  obtain ⟨c, hc⟩ | rfl | ⟨t, ht, hmax, -⟩ := exec_errors_cases i s
  · exact ⟨_, exec_of_rejects hc, rfl⟩
  · exact ⟨_, exec_errclr s, rfl⟩
  · exact ⟨t, ht, hmax⟩

theorem runItem_maxRegs (item : HostItem) (s : State) :
    ∃ t, runItem item s = .next t ∧ t.paramMaxRegs = s.paramMaxRegs := by
  obtain ⟨i, he⟩ | ⟨c, w, he⟩ | ⟨a, he⟩ | ⟨-, he⟩ := runItem_cases item s
  · rw [he]
    exact exec_maxRegs i s
  · exact ⟨_, he, rfl⟩
  · exact ⟨_, he, rfl⟩
  · exact ⟨_, he, rfl⟩

/-- Settles O5: an idle step changes nothing, and an item runs to completion behind whatever the host has presented. -/
theorem stepAlwaysCompletes : Obligations.StepAlwaysCompletes := by
  intro s
  refine ⟨step_of_port_nil, ?_⟩
  cases hp : s.port with
  | nil => exact ⟨s, step_of_port_nil hp, hp, rfl⟩
  | cons item rest =>
    obtain ⟨t, ht, hmax⟩ := runItem_maxRegs item (s.setPort rest)
    exact ⟨t, (step_of_port_cons hp).trans ht, runItem_port ht, hmax⟩

/-! ### The order of the decode failures (R208) -/

theorem computedCrc_eq_receivedCrc_iff {r : List Byte} :
    computedCrc r = receivedCrc r ↔ (crc16 (r.take (r.length - 2))).toNat = receivedValue r := by
  rw [← receivedCrc_toNat, BitVec.toNat_inj, computedCrc]

/-- The strict check on a value region of even length, as numbers. -/
theorem ValidFrame.count_eq {r : List Byte} (h : ValidFrame r false) : 2 * fieldValue r 4 = r.length - 8 := by
  have heven := h.even
  have hcount := h.count rfl
  rw [halfAt_toNat] at hcount
  omega

/-- Settles O28: each failing step has its result, and when none fails the frame is valid. -/
theorem decodeOutcomePriority : Obligations.DecodeOutcomePriority := by
  intro r lenient
  split
  next hlen =>
    rw [decodeFrame_of_short hlen]
    rfl
  next hlen =>
    replace hlen := Nat.not_lt.1 hlen
    split
    next hcrc =>
      rw [decodeFrame_of_crc_ne hlen (mt computedCrc_eq_receivedCrc_iff.1 hcrc)]
      rfl
    next hcrc =>
      have hcrc := computedCrc_eq_receivedCrc_iff.2 (not_not.1 hcrc)
      split
      next hodd =>
        have hinvalid : ¬ ValidFrame r lenient := fun h => absurd (h.even.symm.trans hodd) (by decide)
        rw [decodeFrame_of_truncated hlen hcrc hinvalid]
        rfl
      next heven =>
        split
        next hcount =>
          obtain ⟨rfl, hne⟩ := hcount
          rw [decodeFrame_of_truncated hlen hcrc fun h => hne h.count_eq]
          rfl
        next hcount =>
          have hvalid : ValidFrame r lenient :=
            { long := hlen
              crc := hcrc
              even := by omega
              count := fun hstrict => by
                have heq := not_not.1 fun hne => hcount ⟨hstrict, hne⟩
                rw [halfAt_toNat]
                omega }
          rw [decodeFrame_of_valid hvalid]
          rfl

end Sys2Proof.Machine
end

section
/-! The claims of 70_reset_and_hazards.md: the reset values (R240, R241), the end of every program (R244, R246), commands and
free values (R241, 10_state.md R39), and the frame the ENCODE pseudo-instruction builds (R243). -/

namespace Sys2Proof.Machine

variable {s t : State} {i : Instr}

/-! ### Reset (R240, R241) -/

/-- A step that takes a reset leaves the rest of the queue. -/
theorem step_reset {rest : List HostItem} (h : s.port = .reset :: rest) :
    step s = .next (applyReset (s.setPort rest)) :=
  step_of_port_cons h

/-- Settles O43: the values are the fields of `applyReset`; a second reset leaves the state after reset as it is. -/
theorem resetValues : Obligations.ResetValues :=
  ⟨fun _ _ => step_reset, fun rest => step_reset (s := State.reset.setPort (.reset :: rest)) rfl, rfl, rfl⟩

/-! ### No command uses a free value (R241, 10_state.md R39) -/

/-- The two ways a command that may be rejected can end. -/
theorem next_ite_cases {p : Prop} [Decidable p] {a b : State}
    (h : (if p then .next a else .next b : Host.Outcome State Fault Refusal) = .next t) :
    (p ∧ t = a) ∨ (¬ p ∧ t = b) := by
  split at h
  next hp =>
    cases h
    exact .inl ⟨hp, rfl⟩
  next hp =>
    cases h
    exact .inr ⟨hp, rfl⟩

/-- Under the invariant a command does the same, whatever has been drawn: ENCGO and DECGO, the commands that read a buffer,
read only written entries, and no other command looks at the count. -/
theorem exec_setDraws (hinv : s.Inv) (h : exec i s = .next t) (d : Nat) :
    exec i (s.setDraws d) = .next (t.setDraws d) := by
  cases i with
  | encgo =>
    obtain ⟨vals, hlen, hheld⟩ := hinv.val_written
    rw [exec_encgo_of_holds hlen hheld] at h
    cases h
    exact exec_encgo_of_holds (s := s.setDraws d) hlen hheld
  | decgo =>
    obtain ⟨r, hlen, hheld⟩ := hinv.rxb_written
    rw [exec_decgo_of_holds hlen hheld] at h
    cases h
    exact exec_decgo_of_holds (s := s.setDraws d) hlen hheld
  | encval _ | rxbyte _ | setctrl _ =>
    obtain ⟨hp, rfl⟩ | ⟨hp, rfl⟩ := next_ite_cases h
    · exact if_pos hp
    · exact if_neg hp
  | _ =>
    cases h
    rfl

/-- Settles O46: making no draw is the case of `exec_setDraws` in which the count is set to what it already is. -/
theorem commandsUseNoFreeValue : Obligations.CommandsUseNoFreeValue := by
  intro s i hinv
  obtain ⟨t, ht, -⟩ := hinv.after_exec i
  have hany := exec_setDraws hinv ht
  have hkept : t = t.setDraws s.draws := Host.Outcome.next.inj (ht.symm.trans (hany s.draws))
  exact ⟨t, ht, (congrArg State.draws hkept).trans (setDraws_draws t s.draws), hany⟩

/-! ### Every program ends (R244, R246) -/

/-- The item is a read, which the host is answered. -/
def HostItem.isRead : HostItem → Bool
  | .read _ => true
  | .command _ => false
  | .reset => false

/-- No command answers anything: data comes from the read port only (20_memory.md R41). -/
theorem exec_answers (h : exec i s = .next t) : t.answers = s.answers := by
  cases i with
  | encval _ | rxbyte _ | setctrl _ => obtain ⟨-, rfl⟩ | ⟨-, rfl⟩ := next_ite_cases h <;> rfl
  | _ =>
    cases h
    rfl

/-- A read is answered once, and nothing else is. -/
theorem runItem_answers {item : HostItem} (h : runItem item s = .next t) :
    t.answers.length = s.answers.length + if item.isRead then 1 else 0 := by
  cases item with
  | command w =>
    cases hd : decode w with
    | ok i => exact congrArg List.length (exec_answers ((runCommand_of_ok hd s).symm.trans h))
    | error c =>
      cases (runCommand_of_error hd s).symm.trans h
      rfl
  | read a =>
    cases h
    exact List.length_append
  | reset =>
    cases h
    rfl

/-- A run of as many steps as items takes them all, and answers the reads among them. -/
theorem run_items (items : List HostItem) (s : State) :
    ∃ t, Host.Core.run core items.length (s.setPort items) = .next t ∧ t.port = [] ∧
      t.answers.length = s.answers.length + items.countP HostItem.isRead := by
  induction items generalizing s with
  | nil => exact ⟨s.setPort [], rfl, rfl, rfl⟩
  | cons item rest ih =>
    obtain ⟨u, hu⟩ := runItem_completes item s
    obtain ⟨t, hrun, hport, hcount⟩ := ih u
    refine ⟨t, (run_cons_of_runItem hu rest rest.length).trans hrun, hport, ?_⟩
    rw [hcount, runItem_answers hu, List.countP_cons]
    omega

/-- Settles O6: the run takes every item of the queue, and the reads are counted as the statement filters them. -/
theorem everyProgramEnds : Obligations.EveryProgramEnds := by
  intro s
  obtain ⟨t, hrun, hport, hcount⟩ := run_items s.port s
  refine ⟨t, hrun, hport, ?_⟩
  rw [hcount, List.countP_eq_length_filter]
  exact congrArg (s.answers.length + List.length ·) (List.filter_congr fun item _ => by cases item <;> rfl)

/-! ### The ENCODE pseudo-instruction (R243, 30_encoding.md R75) -/

/-- Settles O50: the header and the address are set, ENCCLR and the ENCVALs make VAL hold the values, and ENCGO stores the
frame of what is then held. -/
theorem pseudoEncodeBuildsTheFrame : Obligations.PseudoEncodeBuildsTheFrame := by
  intro s sid fc addr vals hlegal hfit
  obtain ⟨m, len, hvals, hlen, hheld⟩ := execSeq_encclr_encval ((s.setEncHeader sid fc).setEncAddr addr) vals hfit
  have hencgo := exec_encgo_of_holds (s := ((s.setEncHeader sid fc).setEncAddr addr).setVal m len) hlen.symm hheld
  have hrun : execSeq ([.enchdr sid fc, .encaddr addr, .encclr] ++ vals.map Instr.encval ++ [.encgo]) s = _ :=
    (execSeq_cons_of_next (exec_enchdr sid fc s) _).trans <|
      (execSeq_cons_of_next (exec_encaddr addr _) _).trans <|
        (execSeq_append_of_next hvals [.encgo]).trans (execSeq_cons_of_next hencgo [])
  obtain rfl : len = BitVec.ofNat 16 vals.length := by rw [← hlen, BitVec.ofNat_toNat, BitVec.setWidth_eq]
  exact ⟨_, _, if_pos hfit, hrun, rfl, frameLength_toNat (Nat.le_trans hfit hlegal.2), hheld,
    Memory.writeSeq_holds _ _⟩

end Sys2Proof.Machine
end

section
/-! The claim of 10_state.md's summary table: its column 'written by'. -/

namespace Sys2Proof.Machine

/-- Settles O38: a rejected command updates the error registers, which the statement leaves out, and any other command
makes one update, whose fields are those the table lists for its opcode. -/
theorem onlyListedCommandsWrite : Obligations.OnlyListedCommandsWrite := by
  intro i s
  obtain ⟨t, ht, -⟩ := exec_maxRegs i s
  refine ⟨t, ht, ?_⟩
  cases i with
  | encval _ | rxbyte _ =>
    obtain ⟨-, rfl⟩ | ⟨-, rfl⟩ := next_ite_cases ht
    · simp [reject]
    · simp [Instr.opcode]
  | setctrl _ =>
    obtain ⟨-, rfl⟩ | ⟨-, rfl⟩ := next_ite_cases ht
    · simp [Instr.opcode]
    · simp [reject]
  | _ =>
    cases ht
    simp [Instr.opcode]

end Sys2Proof.Machine
end
